-- ==== Sys2Proof/Word.lean ====
section
/-!
DEFINITION. The words that cross a port: bytes and the wider unsigned fields of R202.
-/

namespace Sys2Proof

/-- One byte of a frame (R190). -/
abbrev Byte := BitVec 8

/-- A two-byte field (R202). -/
abbrev Word16 := BitVec 16

/-- A three-byte field (R202): the lengths of ANNOUNCE and the samples of CALIPER. -/
abbrev Word24 := BitVec 24

/-- A four-byte field (R202). -/
abbrev Word32 := BitVec 32

end Sys2Proof
end

