-- ==== Sys2Proof/Config.lean ====
section
/-!
DEFINITION. What the part fixes (capacities, identity), and the one value the spec leaves open.
-/

namespace Sys2Proof.Config

/-- R27: the Book Table holds 64 slots. -/
abbrev slotCount : Nat := 64

/-- R32: the announce queue holds at most 8 books. -/
def announceCapacity : Nat := 8

/-- R35: a book holds at most 8 caliper samples. -/
def sampleCapacity : Nat := 8

/-- R48: the reject list holds at most 16 entries. -/
def rejectCapacity : Nat := 16

/-- R158: the lift list holds at most 4 lifts. -/
def liftCapacity : Nat := 4

/-- R28: serials run from 1 to 65,535. -/
def topSerial : Nat := 65535

/-- R160: lift numbers run from 1 to 255. -/
def topLiftNumber : Nat := 255

/-- R12: the standstill travel that returns a held line. -/
def standstillReturnTravel : Nat := 16

/-- R35 and R62: the largest caliper sample, in micrometres. -/
def topSample : Nat := 99999

/-- R117: the largest glue reading, in tenths of a degree. -/
def topReading : Nat := 4000

/-- R193: how long select may stay low without a clock edge before the frame is abandoned, in milliseconds. -/
def frameGap : Nat := 2

/-- R199: the length of an attention pulse, 20 µs, in whole milliseconds of the model's clock (entry 3). -/
def pulseTime : Nat := 1

/-- R207: the device code of READ IDENT. -/
def deviceCode : Nat := 0x2416

/-- R207: the revision of READ IDENT. -/
def revision : Nat := 0x01

/-- FREE VALUE (entry 10). The lag after a reverse count taken while the lag stands ABOVE the reverse
tolerance, as a function of the lag and the tolerance: R1 and R3 state the lag below the tolerance and at it,
and a write of a smaller tolerance in SETUP (R7) can leave the lag above it. Nothing is known of it. -/
opaque lagPastTolerance : Nat → Nat → Nat

end Sys2Proof.Config
end

