-- ==== Sys2Proof/Syntax.lean ====
section
/-!
DEFINITION. The commands of the part: one constructor of `Instr` per row of spec/opcode_table.json.

A port command carries its port and the arguments of R202, each at the width of its frame field; selectors and
enumerated values stay the raw bytes of R203, because a byte that names nothing is answered by the command's own
rule. An event of the machine carries what it concerns.
-/

namespace Sys2Proof

/-- One of the four station ports, P0 to P3. -/
abbrev PortId := Fin 4

/-- R5: the four conditioned sensor inputs. -/
inductive Sensor where
  | block | home | jamA | jamB
  deriving DecidableEq, Repr

/-- R114: the two glue pots. -/
inductive PotId where
  | spine | side
  deriving DecidableEq, Repr

/-- R188: the two operator lamps. -/
inductive LampId where
  | a | b
  deriving DecidableEq, Repr

/-- R194: the levels of a port's two role straps (true is high). -/
structure Straps where
  roleA : Bool
  roleB : Bool
  deriving DecidableEq, Repr

/-- R185: the reset sources, each with its reset cause. -/
inductive ResetCause where
  | powerOn | pin | supply | command
  deriving DecidableEq, Repr

/-- R185 and R187: the reset source whose assertion ends, and the levels the part samples if the reset ends with it:
the role straps of the ports (R194), and the raw sensor inputs in the order BLOCK, HOME, JAM_A, JAM_B (R5). -/
structure ResetSample where
  source  : ResetCause
  straps  : Vector Straps 4
  sensors : Vector Bool 4
  deriving DecidableEq, Repr

/-- R190: what can happen on the lines of one port: its select falls, SCK rises with SDI at a level, SCK falls, its
select rises. -/
inductive WireEvent where
  | selectFall
  | clockRise (sdi : Bool)
  | clockFall
  | selectRise
  deriving DecidableEq, Repr

/-- The parts of a TAKE REJECT frame (R50). The snapshot is made when the command byte completes and the effect
comes at select release, so other events may fall between them: `commandByte` and `release` are the two moments,
and `wholeFrame` is both with nothing between. The number is how many answer bytes had been clocked out whole when
select was released; the entry has 8. -/
inductive TakeStage where
  | wholeFrame (answerBytes : Nat)
  | commandByte
  | release (answerBytes : Nat)
  deriving DecidableEq, Repr

/-- The commands and events of the part, in the order of spec/opcode_table.json. -/
inductive Instr where
  -- reads (R192)
  | readIdent (port : PortId)
  | readStatus (port : PortId)
  | readResult (port : PortId)
  | readAttention (port : PortId)
  | readBook (port : PortId) (serial : Word16)
  | readClampMap (port : PortId) (start : Byte)
  | readQueue (port : PortId) (queue start : Byte)
  | readLifts (port : PortId)
  | readConfig (port : PortId)
  | nextDue (port : PortId)
  | nextLift (port : PortId)
  | readRejects (port : PortId) (start : Byte)
  | takeReject (port : PortId) (stage : TakeStage)
  -- attention (R198, R201)
  | setAttention (port : PortId) (enables : Word16) (attnMode : Byte)
  | clearAttention (port : PortId) (mask : Word16)
  -- GATHER (R33 to R42)
  | announce (port : PortId) (jobKey : Word32) (jobClass : Byte) (hr h wr w cw : Word24) (cover : Word32)
  | caliper (port : PortId) (samples : List Word24)
  | seal (port : PortId)
  | withdraw (port : PortId) (serial : Word16)
  | rejectBook (port : PortId) (serial : Word16)
  -- BINDER: line modes (R13 to R25)
  | start (port : PortId)
  | hold (port : PortId)
  | resume (port : PortId)
  | runout (port : PortId)
  | stop (port : PortId)
  | clearHalt (port : PortId)
  /-- A RESOLVE CLAMP frame whose decision byte is not REMOVE: 0 is KEEP, and any other byte names neither
  decision and is refused by R182. -/
  | resolveClampKeep (port : PortId) (clamp decision : Byte)
  | resolveClampRemove (port : PortId) (clamp : Byte)
  | glueReading (port : PortId) (pot : Byte) (raw : Word16)
  | clearGlueFault (port : PortId) (pot : Byte)
  | resetDevice (port : PortId)
  -- COVER and TRIM
  | coverSeen (port : PortId) (serial : Word16) (coverId : Word32)
  | takeLift (port : PortId) (lift : Byte)
  | cutDone (port : PortId) (lift outcome : Byte)
  | closeLift (port : PortId)
  | lockClamp (port : PortId) (clamp : Byte)
  | unlockClamp (port : PortId) (clamp : Byte)
  -- configuration writes (R195)
  | setGeometry (port : PortId) (field : Byte) (value : Word32)
  | setStation (port : PortId) (station d : Byte) (phase : Word16)
  | setSensor (port : PortId) (sensor edge debounce : Byte)
  | setCamWindow (port : PortId) (channel field : Byte) (value : Word16)
  | setJobClass (port : PortId) (cls field : Byte) (value : Word32)
  | setGaugeCal (port : PortId) (field : Byte) (value : Word32)
  | setGlue (port : PortId) (pot field : Byte) (value : Word16)
  | setTimers (port : PortId) (field : Byte) (value : Word32)
  | setLiftLimits (port : PortId) (field : Byte) (value : Word32)
  | forceCam (port : PortId) (channel onOff : Byte)
  -- frames that are no command (R191, R193)
  | frameError (port : PortId) (bytes : List Byte) (partialByte : Bool)
  | frameAbandon (port : PortId) (bytes : List Byte)
  -- encoder counts and what they reach (R1 to R18)
  | forwardCount
  | reverseCount
  | homingTravelLimit
  | pitchesSinceHomeLimit
  | standstillReturn
  | standstillExpiry
  -- inputs (R5, R178 to R187)
  | sensorRawChange (sensor : Sensor) (level : Bool)
  | debounceExpiry (sensor : Sensor)
  | supplyDipStart
  | supplyReturn
  | supplyEvent
  | powerOnReset
  | pinReset
  | resetEnd (sample : ResetSample)
  -- timers and window ends
  | sealTimerExpiry
  | camWindowEnd (channel : Fin 8)
  | settleExpiry (pot : PotId)
  | heatUpExpiry (pot : PotId)
  | staleExpiry (pot : PotId)
  | openTimeExpiry (serial : Word16)
  | coolingExpiry (serial : Word16)
  | windowTimerExpiry
  | trimTimerExpiry
  | attnPulseEnd (port : PortId)
  | lampFlashToggle (lamp : LampId)
  deriving DecidableEq, Repr

end Sys2Proof
end

