-- ==== Sys2Proof/Decode.lean ====
section
/-!
DEFINITION. From bytes and pins to commands. The opcode table gives no row any bits, so `decodeTableWord` spells no
command; the frames of R191 and R202, which the spec does give byte for byte, are read by `decodeFrame` and written
by `encodeFrame`, and a change of the encoder pair (R1) by `quadratureCount`.
-/

namespace Sys2Proof

/-! ### Numbers and bytes -/

/-- R190: a number of `width` bytes, most significant byte first; bytes above the width are dropped. -/
def bytesOf : (width : Nat) → (value : Nat) → List Byte
  | 0, _ => []
  | width + 1, value => bytesOf width (value / 256) ++ [BitVec.ofNat 8 value]

/-- R190: a signed value in two's complement. -/
def bytesOfInt (width : Nat) (value : Int) : List Byte :=
  bytesOf width (BitVec.ofInt (8 * width) value).toNat

/-- The number the bytes spell, most significant byte first. -/
def natOf (bytes : List Byte) : Nat :=
  bytes.foldl (fun acc b => acc * 256 + b.toNat) 0

/-- The number in the `width` argument bytes from `offset` on. -/
def natAt (args : List Byte) (offset width : Nat) : Nat :=
  natOf ((args.drop offset).take width)

/-- R202: the samples of a CALIPER frame, three bytes each. -/
def samplesOf : List Byte → List Word24
  | a :: b :: c :: rest => BitVec.ofNat 24 (natOf [a, b, c]) :: samplesOf rest
  | _ => []

/-! ### Command codes (R202) -/

def Code.readIdent : Byte := 0x01
def Code.readStatus : Byte := 0x02
def Code.readResult : Byte := 0x03
def Code.readAttention : Byte := 0x04
def Code.readBook : Byte := 0x05
def Code.readClampMap : Byte := 0x06
def Code.readQueue : Byte := 0x07
def Code.readLifts : Byte := 0x08
def Code.readConfig : Byte := 0x09
def Code.nextDue : Byte := 0x0A
def Code.nextLift : Byte := 0x0B
def Code.readRejects : Byte := 0x0C
def Code.takeReject : Byte := 0x0D
def Code.setAttention : Byte := 0x10
def Code.clearAttention : Byte := 0x11
def Code.announce : Byte := 0x20
def Code.caliper : Byte := 0x21
def Code.seal : Byte := 0x22
def Code.withdraw : Byte := 0x23
def Code.rejectBook : Byte := 0x24
def Code.start : Byte := 0x30
def Code.hold : Byte := 0x31
def Code.resume : Byte := 0x32
def Code.runout : Byte := 0x33
def Code.stop : Byte := 0x34
def Code.clearHalt : Byte := 0x35
def Code.resolveClamp : Byte := 0x36
def Code.glueReading : Byte := 0x37
def Code.clearGlueFault : Byte := 0x38
def Code.resetDevice : Byte := 0x3F
def Code.coverSeen : Byte := 0x40
def Code.takeLift : Byte := 0x50
def Code.cutDone : Byte := 0x51
def Code.closeLift : Byte := 0x52
def Code.lockClamp : Byte := 0x60
def Code.unlockClamp : Byte := 0x61
def Code.setGeometry : Byte := 0x70
def Code.setStation : Byte := 0x71
def Code.setCamWindow : Byte := 0x72
def Code.setJobClass : Byte := 0x73
def Code.setGaugeCal : Byte := 0x74
def Code.setGlue : Byte := 0x75
def Code.setTimers : Byte := 0x76
def Code.setLiftLimits : Byte := 0x77
def Code.setSensor : Byte := 0x78
def Code.forceCam : Byte := 0x79

/-! ### The form of a frame (R191, R192, R202) -/

/-- How the length of a frame is judged. -/
inductive FrameShape where
  /-- a read, taken when its last argument byte completes -/
  | read (args : Nat)
  /-- TAKE REJECT: well formed at 9 bytes or more; shorter frames are R50's -/
  | takeReject
  /-- an action command of exactly this many argument bytes -/
  | action (args : Nat)
  /-- CALIPER: a count byte n, then 3 × n bytes -/
  | caliper
  deriving DecidableEq, Repr

/-- The shape of the frame of each command code of R202; none for a code that names no command. -/
def frameShape (code : Byte) : Option FrameShape :=
  match code.toNat with
  | 0x01 => some (.read 0)
  | 0x02 => some (.read 0)
  | 0x03 => some (.read 0)
  | 0x04 => some (.read 0)
  | 0x05 => some (.read 2)
  | 0x06 => some (.read 1)
  | 0x07 => some (.read 2)
  | 0x08 => some (.read 0)
  | 0x09 => some (.read 0)
  | 0x0A => some (.read 0)
  | 0x0B => some (.read 0)
  | 0x0C => some (.read 1)
  | 0x0D => some .takeReject
  | 0x10 => some (.action 3)
  | 0x11 => some (.action 2)
  | 0x20 => some (.action 24)
  | 0x21 => some .caliper
  | 0x22 => some (.action 0)
  | 0x23 => some (.action 2)
  | 0x24 => some (.action 2)
  | 0x30 => some (.action 0)
  | 0x31 => some (.action 0)
  | 0x32 => some (.action 0)
  | 0x33 => some (.action 0)
  | 0x34 => some (.action 0)
  | 0x35 => some (.action 0)
  | 0x36 => some (.action 2)
  | 0x37 => some (.action 3)
  | 0x38 => some (.action 1)
  | 0x3F => some (.action 0)
  | 0x40 => some (.action 6)
  | 0x50 => some (.action 1)
  | 0x51 => some (.action 2)
  | 0x52 => some (.action 0)
  | 0x60 => some (.action 1)
  | 0x61 => some (.action 1)
  | 0x70 => some (.action 5)
  | 0x71 => some (.action 4)
  | 0x72 => some (.action 4)
  | 0x73 => some (.action 6)
  | 0x74 => some (.action 5)
  | 0x75 => some (.action 4)
  | 0x76 => some (.action 5)
  | 0x77 => some (.action 5)
  | 0x78 => some (.action 3)
  | 0x79 => some (.action 2)
  | _ => none

/-- R191 and R192: does a frame of these whole bytes, ended by select rising (after a partial byte or not), give
FRAME_ERROR? An unknown code and a wrong length do. A read errs only when select rises before its last argument
byte; a TAKE REJECT shorter than 9 bytes is R50's and is no error. A select that rises with nothing clocked is no
frame (R193). -/
def isFrameError (bytes : List Byte) (partialByte : Bool) : Bool :=
  match bytes with
  | [] => partialByte
  | code :: args =>
    match frameShape code with
    | none => true
    | some (.read n) => args.length < n
    | some .takeReject => partialByte && 8 ≤ args.length
    | some (.action n) => partialByte || args.length != n
    | some .caliper =>
      match args with
      | [] => true
      | n :: rest => partialByte || rest.length != 3 * n.toNat

/-- R190 and R193: can a frame of these bytes still be abandoned? An unknown code has already put the port in
DISCARDING; every other frame is COLLECTING or ANSWERING. -/
def isAbandonable (bytes : List Byte) : Bool :=
  match bytes with
  | [] => true
  | code :: _ => (frameShape code).isSome

/-- R193: the subject of a FRAME_ERROR: the command code received, or 0 if no whole byte was received. It is also the
command code that READ RESULT answers after it (R196); with no whole byte received no rule gives that code, and 0x00 is
the model's choice (DESIGN CHOICE, unsafe: entry 30). -/
def receivedCode (bytes : List Byte) : Byte := bytes.headD 0

/-- R185 and R203: the reset causes. -/
def ResetCause.code : ResetCause → Nat
  | .powerOn => 1
  | .pin => 2
  | .supply => 3
  | .command => 4

/-! ### Frames to commands (R202) -/

/-- The command a frame of the right form spells. -/
def decodeCommand (port : PortId) (code : Byte) (args : List Byte) : Option Instr :=
  match code.toNat with
  | 0x01 => some (.readIdent port)
  | 0x02 => some (.readStatus port)
  | 0x03 => some (.readResult port)
  | 0x04 => some (.readAttention port)
  | 0x05 => some (.readBook port (BitVec.ofNat 16 (natAt args 0 2)))
  | 0x06 => some (.readClampMap port (BitVec.ofNat 8 (natAt args 0 1)))
  | 0x07 => some (.readQueue port (BitVec.ofNat 8 (natAt args 0 1)) (BitVec.ofNat 8 (natAt args 1 1)))
  | 0x08 => some (.readLifts port)
  | 0x09 => some (.readConfig port)
  | 0x0A => some (.nextDue port)
  | 0x0B => some (.nextLift port)
  | 0x0C => some (.readRejects port (BitVec.ofNat 8 (natAt args 0 1)))
  | 0x0D => some (.takeReject port (.wholeFrame args.length))
  | 0x10 => some (.setAttention port (BitVec.ofNat 16 (natAt args 0 2)) (BitVec.ofNat 8 (natAt args 2 1)))
  | 0x11 => some (.clearAttention port (BitVec.ofNat 16 (natAt args 0 2)))
  | 0x20 => some (.announce port (BitVec.ofNat 32 (natAt args 0 4)) (BitVec.ofNat 8 (natAt args 4 1))
      (BitVec.ofNat 24 (natAt args 5 3)) (BitVec.ofNat 24 (natAt args 8 3)) (BitVec.ofNat 24 (natAt args 11 3))
      (BitVec.ofNat 24 (natAt args 14 3)) (BitVec.ofNat 24 (natAt args 17 3)) (BitVec.ofNat 32 (natAt args 20 4)))
  | 0x21 => some (.caliper port (samplesOf (args.drop 1)))
  | 0x22 => some (.seal port)
  | 0x23 => some (.withdraw port (BitVec.ofNat 16 (natAt args 0 2)))
  | 0x24 => some (.rejectBook port (BitVec.ofNat 16 (natAt args 0 2)))
  | 0x30 => some (.start port)
  | 0x31 => some (.hold port)
  | 0x32 => some (.resume port)
  | 0x33 => some (.runout port)
  | 0x34 => some (.stop port)
  | 0x35 => some (.clearHalt port)
  | 0x36 =>
    if natAt args 1 1 = 1 then some (.resolveClampRemove port (BitVec.ofNat 8 (natAt args 0 1)))
    else some (.resolveClampKeep port (BitVec.ofNat 8 (natAt args 0 1)) (BitVec.ofNat 8 (natAt args 1 1)))
  | 0x37 => some (.glueReading port (BitVec.ofNat 8 (natAt args 0 1)) (BitVec.ofNat 16 (natAt args 1 2)))
  | 0x38 => some (.clearGlueFault port (BitVec.ofNat 8 (natAt args 0 1)))
  | 0x3F => some (.resetDevice port)
  | 0x40 => some (.coverSeen port (BitVec.ofNat 16 (natAt args 0 2)) (BitVec.ofNat 32 (natAt args 2 4)))
  | 0x50 => some (.takeLift port (BitVec.ofNat 8 (natAt args 0 1)))
  | 0x51 => some (.cutDone port (BitVec.ofNat 8 (natAt args 0 1)) (BitVec.ofNat 8 (natAt args 1 1)))
  | 0x52 => some (.closeLift port)
  | 0x60 => some (.lockClamp port (BitVec.ofNat 8 (natAt args 0 1)))
  | 0x61 => some (.unlockClamp port (BitVec.ofNat 8 (natAt args 0 1)))
  | 0x70 => some (.setGeometry port (BitVec.ofNat 8 (natAt args 0 1)) (BitVec.ofNat 32 (natAt args 1 4)))
  | 0x71 => some (.setStation port (BitVec.ofNat 8 (natAt args 0 1)) (BitVec.ofNat 8 (natAt args 1 1))
      (BitVec.ofNat 16 (natAt args 2 2)))
  | 0x72 => some (.setCamWindow port (BitVec.ofNat 8 (natAt args 0 1)) (BitVec.ofNat 8 (natAt args 1 1))
      (BitVec.ofNat 16 (natAt args 2 2)))
  | 0x73 => some (.setJobClass port (BitVec.ofNat 8 (natAt args 0 1)) (BitVec.ofNat 8 (natAt args 1 1))
      (BitVec.ofNat 32 (natAt args 2 4)))
  | 0x74 => some (.setGaugeCal port (BitVec.ofNat 8 (natAt args 0 1)) (BitVec.ofNat 32 (natAt args 1 4)))
  | 0x75 => some (.setGlue port (BitVec.ofNat 8 (natAt args 0 1)) (BitVec.ofNat 8 (natAt args 1 1))
      (BitVec.ofNat 16 (natAt args 2 2)))
  | 0x76 => some (.setTimers port (BitVec.ofNat 8 (natAt args 0 1)) (BitVec.ofNat 32 (natAt args 1 4)))
  | 0x77 => some (.setLiftLimits port (BitVec.ofNat 8 (natAt args 0 1)) (BitVec.ofNat 32 (natAt args 1 4)))
  | 0x78 => some (.setSensor port (BitVec.ofNat 8 (natAt args 0 1)) (BitVec.ofNat 8 (natAt args 1 1))
      (BitVec.ofNat 8 (natAt args 2 1)))
  | 0x79 => some (.forceCam port (BitVec.ofNat 8 (natAt args 0 1)) (BitVec.ofNat 8 (natAt args 1 1)))
  | _ => none

/-- R191 to R193: what a whole frame on a port is, from select falling to select rising: its command, a FRAME ERROR,
or nothing (no clock edge came). A TAKE REJECT frame is the whole frame with nothing between its two moments. -/
def decodeFrame (port : PortId) (bytes : List Byte) (partialByte : Bool) : Option Instr :=
  if isFrameError bytes partialByte then some (.frameError port bytes partialByte)
  else match bytes with
    | [] => none
    | code :: args => decodeCommand port code args

/-! ### Commands to frames (R202) -/

/-- The bytes the master clocks in for a command, for every command that is a frame of its own; the answer bytes of
a TAKE REJECT are clocked against zeros. Events of the machine, and the two halves of a split TAKE REJECT, are no
frames. -/
def encodeFrame : Instr → Option (List Byte)
  | .readIdent _ => some [Code.readIdent]
  | .readStatus _ => some [Code.readStatus]
  | .readResult _ => some [Code.readResult]
  | .readAttention _ => some [Code.readAttention]
  | .readBook _ serial => some (Code.readBook :: bytesOf 2 serial.toNat)
  | .readClampMap _ start => some [Code.readClampMap, start]
  | .readQueue _ queue start => some [Code.readQueue, queue, start]
  | .readLifts _ => some [Code.readLifts]
  | .readConfig _ => some [Code.readConfig]
  | .nextDue _ => some [Code.nextDue]
  | .nextLift _ => some [Code.nextLift]
  | .readRejects _ start => some [Code.readRejects, start]
  | .takeReject _ (.wholeFrame answerBytes) => some (Code.takeReject :: List.replicate answerBytes 0)
  | .takeReject _ .commandByte => none
  | .takeReject _ (.release _) => none
  | .setAttention _ enables attnMode => some (Code.setAttention :: (bytesOf 2 enables.toNat ++ [attnMode]))
  | .clearAttention _ mask => some (Code.clearAttention :: bytesOf 2 mask.toNat)
  | .announce _ jobKey jobClass hr h wr w cw cover =>
    some (Code.announce :: (bytesOf 4 jobKey.toNat ++ [jobClass] ++ bytesOf 3 hr.toNat ++ bytesOf 3 h.toNat
      ++ bytesOf 3 wr.toNat ++ bytesOf 3 w.toNat ++ bytesOf 3 cw.toNat ++ bytesOf 4 cover.toNat))
  | .caliper _ samples =>
    some (Code.caliper :: BitVec.ofNat 8 samples.length :: samples.flatMap fun x => bytesOf 3 x.toNat)
  | .seal _ => some [Code.seal]
  | .withdraw _ serial => some (Code.withdraw :: bytesOf 2 serial.toNat)
  | .rejectBook _ serial => some (Code.rejectBook :: bytesOf 2 serial.toNat)
  | .start _ => some [Code.start]
  | .hold _ => some [Code.hold]
  | .resume _ => some [Code.resume]
  | .runout _ => some [Code.runout]
  | .stop _ => some [Code.stop]
  | .clearHalt _ => some [Code.clearHalt]
  | .resolveClampKeep _ clamp decision => some [Code.resolveClamp, clamp, decision]
  | .resolveClampRemove _ clamp => some [Code.resolveClamp, clamp, 1]
  | .glueReading _ pot raw => some (Code.glueReading :: pot :: bytesOf 2 raw.toNat)
  | .clearGlueFault _ pot => some [Code.clearGlueFault, pot]
  | .resetDevice _ => some [Code.resetDevice]
  | .coverSeen _ serial coverId => some (Code.coverSeen :: (bytesOf 2 serial.toNat ++ bytesOf 4 coverId.toNat))
  | .takeLift _ lift => some [Code.takeLift, lift]
  | .cutDone _ lift outcome => some [Code.cutDone, lift, outcome]
  | .closeLift _ => some [Code.closeLift]
  | .lockClamp _ clamp => some [Code.lockClamp, clamp]
  | .unlockClamp _ clamp => some [Code.unlockClamp, clamp]
  | .setGeometry _ field value => some (Code.setGeometry :: field :: bytesOf 4 value.toNat)
  | .setStation _ station d phase => some (Code.setStation :: station :: d :: bytesOf 2 phase.toNat)
  | .setSensor _ sensor edge debounce => some [Code.setSensor, sensor, edge, debounce]
  | .setCamWindow _ channel field value => some (Code.setCamWindow :: channel :: field :: bytesOf 2 value.toNat)
  | .setJobClass _ cls field value => some (Code.setJobClass :: cls :: field :: bytesOf 4 value.toNat)
  | .setGaugeCal _ field value => some (Code.setGaugeCal :: field :: bytesOf 4 value.toNat)
  | .setGlue _ pot field value => some (Code.setGlue :: pot :: field :: bytesOf 2 value.toNat)
  | .setTimers _ field value => some (Code.setTimers :: field :: bytesOf 4 value.toNat)
  | .setLiftLimits _ field value => some (Code.setLiftLimits :: field :: bytesOf 4 value.toNat)
  | .forceCam _ channel onOff => some [Code.forceCam, channel, onOff]
  | .frameError _ bytes partialByte => if partialByte then none else some bytes
  | .frameAbandon _ _ => none
  | .forwardCount => none
  | .reverseCount => none
  | .homingTravelLimit => none
  | .pitchesSinceHomeLimit => none
  | .standstillReturn => none
  | .standstillExpiry => none
  | .sensorRawChange _ _ => none
  | .debounceExpiry _ => none
  | .supplyDipStart => none
  | .supplyReturn => none
  | .supplyEvent => none
  | .powerOnReset => none
  | .pinReset => none
  | .resetEnd _ => none
  | .sealTimerExpiry => none
  | .camWindowEnd _ => none
  | .settleExpiry _ => none
  | .heatUpExpiry _ => none
  | .staleExpiry _ => none
  | .openTimeExpiry _ => none
  | .coolingExpiry _ => none
  | .windowTimerExpiry => none
  | .trimTimerExpiry => none
  | .attnPulseEnd _ => none
  | .lampFlashToggle _ => none

/-- The port a port command came on; none for an event of the machine. -/
def portOf : Instr → Option PortId
  | .readIdent p | .readStatus p | .readResult p | .readAttention p | .readBook p _ | .readClampMap p _
  | .readQueue p _ _ | .readLifts p | .readConfig p | .nextDue p | .nextLift p | .readRejects p _
  | .takeReject p _ | .setAttention p _ _ | .clearAttention p _ | .announce p _ _ _ _ _ _ _ _ | .caliper p _
  | .seal p | .withdraw p _ | .rejectBook p _ | .start p | .hold p | .resume p | .runout p | .stop p
  | .clearHalt p | .resolveClampKeep p _ _ | .resolveClampRemove p _ | .glueReading p _ _ | .clearGlueFault p _
  | .resetDevice p | .coverSeen p _ _ | .takeLift p _ | .cutDone p _ _ | .closeLift p | .lockClamp p _
  | .unlockClamp p _ | .setGeometry p _ _ | .setStation p _ _ _ | .setSensor p _ _ _ | .setCamWindow p _ _ _
  | .setJobClass p _ _ _ | .setGaugeCal p _ _ | .setGlue p _ _ _ | .setTimers p _ _ | .setLiftLimits p _ _
  | .forceCam p _ _ | .frameError p _ _ | .frameAbandon p _ => some p
  | .forwardCount | .reverseCount | .homingTravelLimit | .pitchesSinceHomeLimit | .standstillReturn
  | .standstillExpiry | .sensorRawChange _ _ | .debounceExpiry _ | .supplyDipStart | .supplyReturn | .supplyEvent
  | .powerOnReset | .pinReset | .resetEnd _ | .sealTimerExpiry | .camWindowEnd _ | .settleExpiry _
  | .heatUpExpiry _ | .staleExpiry _ | .openTimeExpiry _ | .coolingExpiry _ | .windowTimerExpiry
  | .trimTimerExpiry | .attnPulseEnd _ | .lampFlashToggle _ => none

/-! ### The encoder pair (R1) -/

/-- R1: the count a change of the pair (ENC_A, ENC_B) gives. One input changes at a time; A leading B is forward,
B leading A is reverse; a change of both at once, and no change, is no count. -/
def quadratureCount (a b a' b' : Bool) : Option Instr :=
  if a != a' && b == b' then some (if a' != b then .forwardCount else .reverseCount)
  else if a == a' && b != b' then some (if b' == a then .forwardCount else .reverseCount)
  else none

/-! ### The opcode table -/

/-- The command a word spells by the bits of spec/opcode_table.json: the table gives no row any bits, so no word
spells one (entry 17). -/
def decodeTableWord (_nbits _w : Nat) : Option Instr := none

end Sys2Proof
end

