-- ==== Sys2Proof/Machine/State.lean ====
section
/-!
DEFINITION. The state of the part, block by block as 00_scope.md divides it, and the state after reset.
Times are whole milliseconds (entry 1); lengths are micrometres; positions are encoder counts.
-/

namespace Sys2Proof.Machine

/-! ### The Pitch Clock (01_the_pitch_clock_and_line_modes.md) -/

/-- R19: the kind of a HOLD. -/
inductive HoldKind where
  | standstill | commanded
  deriving DecidableEq, Repr

/-- R19: the mode a HOLD returns to. -/
inductive ReturnMode where
  | run | runout
  deriving DecidableEq, Repr

/-- R19: the line mode; the hold kind and the return mode are kept only while the mode is HOLD. -/
inductive LineMode where
  | setup | homing | run
  | hold (kind : HoldKind) (ret : ReturnMode)
  | runout | halted
  deriving DecidableEq, Repr

/-- R8: the seven stations, in their order along the carousel. -/
inductive Station where
  | infeed | mill | spineGlue | sideGlue | cover | nip | release
  deriving DecidableEq, Repr

/-- R6: which conditioned changes a sensor reports. -/
inductive EdgeSelect where
  | rising | falling | both
  deriving DecidableEq, Repr

/-- R5 and R6: one sensor conditioner. `pending` is the pending change, by the time at which its debounce time
ends; the pending level is the one opposite to `level`. -/
structure Conditioner where
  edge     : EdgeSelect
  debounce : Nat
  raw      : Bool
  level    : Bool
  pending  : Option Nat
  deriving DecidableEq, Repr

/-- R7: the supply action. -/
inductive SupplyAction where
  | freeze | reset
  deriving DecidableEq, Repr

/-- R7: the geometry. -/
structure Geometry where
  clampCount       : Nat
  pitchCounts      : Nat
  pitchLength      : Nat
  homePhase        : Nat
  homeTolerance    : Nat
  reverseTolerance : Nat
  capacity         : Nat
  supplyAction     : SupplyAction
  deriving DecidableEq, Repr

/-- R8: one station's pitch offset d and phase p. -/
structure StationPlace where
  offset : Nat
  phase  : Nat
  deriving DecidableEq, Repr

/-- The Pitch Clock: position (R4), sensors (R5), geometry (R7), stations (R8), line mode (R19), standstill (R11).
`fired` and `stations` run in station order. -/
structure PitchClock where
  mode             : LineMode
  phase            : Nat
  clampIndex       : Nat
  pitchCounter     : BitVec 32
  lag              : Nat
  fired            : Vector Bool 7
  homingTravel     : Nat
  pitchesSinceHome : Nat
  standstillTravel : Nat
  standstillTimer  : Option Nat
  sensors          : Vector Conditioner 4
  geometry         : Geometry
  stations         : Vector StationPlace 7
  deriving DecidableEq, Repr

/-- The eight durations of SET TIMERS, in milliseconds but for `heatUp`, in seconds (R11, R36, R116, R161). -/
structure Timers where
  sealIdle    : Nat
  standstill  : Nat
  glueSettle  : Nat
  heatUp      : Nat
  stale       : Nat
  openLimit   : Nat
  liftWindow  : Nat
  trimTimeout : Nat
  deriving DecidableEq, Repr

/-! ### Book records (02_book_records.md) -/

/-- R31: the seven states of a live book. -/
inductive BookState where
  | announced | sealed | inClamp | cooling | ready | inLift | cutting
  deriving DecidableEq, Repr

/-- R43: the sixteen reject causes, in code order. -/
inductive RejectCause where
  | specRange | unannounced | noCaliper | wedge | caliperRange | trimMargin | coverShort | scoreReach
  | glueTemp | coverMismatch | coverLate | openTime | operator | removed | trimFault | glueInterrupted
  deriving DecidableEq, Repr

/-- R44: the warnings written at seal. -/
structure Warnings where
  nipFloor    : Bool
  glueClipped : Bool
  sideClipped : Bool
  coolCapped  : Bool
  deriving DecidableEq, Repr

/-- No warning. -/
def Warnings.none : Warnings := ⟨false, false, false, false⟩

/-- The job fields of ANNOUNCE (R29), stored as given (R34). -/
structure Job where
  jobKey     : Word32
  jobClass   : Nat
  rawHeight  : Nat
  height     : Nat
  rawWidth   : Nat
  width      : Nat
  coverWidth : Nat
  deriving DecidableEq, Repr

/-- R73: a glue window in counts from its station event. -/
structure GlueWindow where
  start  : Nat
  length : Nat
  deriving DecidableEq, Repr

/-- R76: the set-point record. -/
structure SetPoints where
  caliper     : Nat
  spine       : Nat
  millDepth   : Nat
  headTrim    : Nat
  footTrim    : Nat
  foreTrim    : Nat
  outer1      : Nat
  inner1      : Nat
  inner2      : Nat
  outer2      : Nat
  nipGap      : Nat
  spineWindow : GlueWindow
  sideWindow  : Option GlueWindow
  windowE     : Nat
  coolingTime : Nat
  deriving DecidableEq, Repr

/-- R127: a running open-time timer. -/
structure OpenTimer where
  started : Nat
  due     : Nat
  deriving DecidableEq, Repr

/-- R29: the record of one live book. -/
structure Book where
  serial          : Nat
  state           : BookState
  job             : Option Job
  expectedCover   : Word32
  samples         : List Nat
  setPoints       : Option SetPoints
  warnings        : Warnings
  cause           : Option RejectCause
  clamp           : Option Nat
  progress        : Option Station
  admittedAt      : Option (BitVec 32)
  suspect         : Bool
  observedCover   : Option Word32
  coverApplied    : Bool
  openTime        : Option OpenTimer
  coolingDeadline : Option Nat
  liftNumber      : Option Nat
  deriving DecidableEq, Repr

/-- R48: where a rejected book left the line. -/
inductive Where where
  | release | trimmer | recovery
  deriving DecidableEq, Repr

/-- R48: one entry of the reject list. -/
structure RejectEntry where
  serial : Nat
  jobKey : Word32
  cause  : RejectCause
  place  : Where
  deriving DecidableEq, Repr

/-- The Book Table. `rejectsGone` is the model's own: how many entries have left the head of the reject list since
the reset (entry 19). -/
structure BookTable where
  slots       : Vector (Option Book) Config.slotCount
  lastSerial  : Nat
  announceQ   : List Nat
  sealTimer   : Option Nat
  rejects     : List RejectEntry
  overrun     : Bool
  rejectsGone : Nat
  admitted    : BitVec 32
  done        : BitVec 32
  rejected    : BitVec 32
  withdrawn   : BitVec 32
  deriving DecidableEq, Repr

/-! ### The Set-Point Unit (03_caliper_correction_and_set_point_arithmetic.md) -/

/-- R54: one job class. -/
structure JobClass where
  millDepth    : Nat
  hingeOffset  : Nat
  glueAllow    : Nat
  nipSqueeze   : Nat
  spineMargin  : Nat
  sideMargin   : Nat
  sideUsed     : Bool
  coolBase     : Nat
  coolPerMm    : Nat
  deriving DecidableEq, Repr

/-- R56: the sign of the gauge calibration. -/
inductive Sign where
  | add | subtract
  deriving DecidableEq, Repr

/-- R56: the gauge calibration. -/
structure GaugeCal where
  sign        : Sign
  shift       : Nat
  offset      : Int
  spreadLimit : Nat
  deriving DecidableEq, Repr

/-- The Set-Point Unit. -/
structure SetPointUnit where
  classes : Vector JobClass 8
  gauge   : GaugeCal
  deriving DecidableEq, Repr

/-! ### Carousel and Cover Matcher (04_the_clamp_carousel.md, 05_cover_matching.md) -/

/-- R80, R81, R84: the clamp map (one entry for each clamp 0 to N-1), the clamp locks (a set, by clamp number; no
geometry has more than 32 clamps) and the presence latch. -/
structure Carousel where
  clampMap : List (Option Nat)
  locks    : Vector Bool 32
  presence : Bool
  deriving DecidableEq, Repr

/-- R101: one entry of the due list. -/
structure DueEntry where
  serial   : Nat
  want     : Bool
  received : Bool
  deriving DecidableEq, Repr

/-! ### Glue Supervisor (06_glue_supervision_and_open_time.md) -/

/-- R114: the states of a glue pot. -/
inductive PotState where
  | unknown | cold | settling | ready | hot | fault
  deriving DecidableEq, Repr

/-- R114: one glue pot; its timers by the time at which they are due. -/
structure Pot where
  low        : Nat
  high       : Nat
  hysteresis : Nat
  offset     : Int
  shift      : Nat
  enabled    : Bool
  state      : PotState
  filtered   : Nat
  settle     : Option Nat
  heatUp     : Option Nat
  stale      : Option Nat
  deriving DecidableEq, Repr

/-- R114: the two pots. -/
structure GlueSupervisor where
  spine : Pot
  side  : Pot
  deriving DecidableEq, Repr

/-! ### Cam Unit (07_cam_channels.md) -/

/-- R133: the window in progress on a channel. -/
structure CamWindow where
  clamp  : Nat
  start  : Nat
  length : Nat
  travel : Nat
  deriving DecidableEq, Repr

/-- R133: one cam channel; `start` and `length` of the two glue channels are not used and stand at 0 (R207). -/
structure CamChannel where
  start     : Nat
  length    : Nat
  activeLow : Bool
  forced    : Bool
  window    : Option CamWindow
  deriving DecidableEq, Repr

/-! ### Lift Builder (09_trim_lifts.md) -/

/-- R158: the states of a lift. -/
inductive LiftState where
  | opened | closed | dispatched
  deriving DecidableEq, Repr

/-- R159: one lift record; its timers by the time at which they are due. -/
structure Lift where
  number      : Nat
  state       : LiftState
  books       : List Nat
  height      : Nat
  overdue     : Bool
  windowTimer : Option Nat
  trimTimer   : Option Nat
  deriving DecidableEq, Repr

/-- R161: the lift limits. -/
structure LiftLimits where
  maxCount  : Nat
  maxHeight : Nat
  tolerance : Nat
  deriving DecidableEq, Repr

/-- The Lift Builder. -/
structure LiftBuilder where
  lifts      : List Lift
  lastNumber : Nat
  limits     : LiftLimits
  deriving DecidableEq, Repr

/-! ### Stoppage Unit (10_stoppages_recovery_and_resets.md) -/

/-- R24: the halt causes. -/
inductive HaltCause where
  | reverse | homeMismatch | homeMissing | jamA | jamB | supply
  deriving DecidableEq, Repr

/-- R178: the supply monitor; a dip remembers whether its one supply event has been taken. -/
inductive SupplyMonitor where
  | clear
  | dipping (eventTaken : Bool)
  deriving DecidableEq, Repr

/-- R188: one lamp: whether it is on, and when a flashing lamp next changes. -/
structure Lamp where
  on       : Bool
  toggleAt : Option Nat
  deriving DecidableEq, Repr

/-- The Stoppage Unit; `held` says that the part is held in reset, and `asserted` which reset sources stand then, in
the order in which they were asserted (R185). -/
structure Stoppage where
  haltCause    : Option HaltCause
  furtherCause : Bool
  resetCause   : ResetCause
  supply       : SupplyMonitor
  lampA        : Lamp
  lampB        : Lamp
  held         : Bool
  asserted     : List ResetCause
  deriving DecidableEq, Repr

/-! ### Station Ports (11_station_ports.md) -/

/-- R194: the roles of a port. -/
inductive Role where
  | gather | binder | cover | trim | observer
  deriving DecidableEq, Repr

/-- R190: the frame states of a port. -/
inductive FrameState where
  | idle | collecting | answering | discarding
  deriving DecidableEq, Repr

/-- R203: the results of a command. -/
inductive Result where
  | ok | adjusted | refusedRole | refusedMode | refusedRange | refusedFull | refusedUnknown | refusedBusy
  | refusedOrder | tooLate | notApplied | duplicate | frameError
  deriving DecidableEq, Repr

/-- R198: the attention modes. -/
inductive AttnMode where
  | level | pulse
  deriving DecidableEq, Repr

/-- R197: the attention causes, highest priority first. -/
inductive Attention where
  | halt | overdue | glue | reject | lift | due | space | mode | frame
  deriving DecidableEq, Repr

/-- R192: the snapshot of a read being answered. Bytes clocked past its end read 0x00, or begin again (`cyclic`)
in the answer of READ CLAMP MAP (R83). -/
structure Snapshot where
  bytes  : List Byte
  cyclic : Bool
  deriving DecidableEq, Repr

/-- R50: the entry a TAKE REJECT in progress has snapshotted, if the list held one, and how many entries had left
the head of the list by then (entry 19). -/
structure TakeSnapshot where
  entry : Option RejectEntry
  gone  : Nat
  deriving DecidableEq, Repr

/-- One station port; `pulse` is the attention pulse in progress, by the time at which it is over (R199). -/
structure Port where
  role      : Role
  frame     : FrameState
  collected : List Byte
  snapshot  : Option Snapshot
  taking    : Option TakeSnapshot
  result    : Result
  subject   : Word16
  lastCode  : Byte
  latches   : BitVec 9
  enables   : BitVec 9
  attnMode  : AttnMode
  pulse     : Option Nat
  deriving DecidableEq, Repr

/-- R190: what the lines of one port hold besides the frame: the bits of a byte not yet complete, the first of them its
most significant bit, how many whole bytes have been clocked since the port left COLLECTING, while select is low the
time at which 2 ms will have passed since its fall or the last edge of SCK, whether SCK has had an edge since that fall
(R193), and the level driven on SDO after the last falling edge of SCK. -/
structure PortWire where
  bits     : List Bool
  answered : Nat
  gap      : Option Nat
  edge     : Bool
  sdo      : Bool
  deriving DecidableEq, Repr

/-- R190: the lines of a port whose select is high, as after a reset: nothing clocked, no gap measured, SDO low. -/
def PortWire.rest : PortWire := ⟨[], 0, none, false, false⟩

/-! ### The whole part -/

/-- The state of the part, block by block, the time `now` in milliseconds (entry 1), the queue of line events that the
ports have still to take (entry 5), and the queue of waiting commands, each first in first out. -/
structure State where
  now       : Nat
  clock     : PitchClock
  timers    : Timers
  books     : BookTable
  setpoints : SetPointUnit
  carousel  : Carousel
  due       : List DueEntry
  glue      : GlueSupervisor
  cams      : Vector CamChannel 8
  delivery  : List Nat
  lifting   : LiftBuilder
  stoppage  : Stoppage
  ports     : Vector Port 4
  wires     : Vector PortWire 4
  arriving  : List (PortId × WireEvent)
  pending   : List Instr
  deriving DecidableEq, Repr

/-- Why a step could stop the part: NOTHING DOES. The spec answers every bad command and every bad condition with a
result, a FRAME_ERROR or a halt of the line, and goes on; so no meaning of the model raises a fault, and this type
has no constructor. Safe. -/
inductive Fault where
  deriving DecidableEq, Repr

/-- Why a step could be refused. -/
inductive Refusal where
  /-- Raised by `exec`'s arm of a command that has no meaning yet, with its row's mnemonic. Safe: nothing is claimed
  of it. No arm raises it now. -/
  | notModelled (mnemonic : String)
  deriving DecidableEq, Repr

/-! ### The values after reset (R187) -/

/-- R6: a sensor's settings after any reset; its level is the raw level sampled at the end of the reset (R5). -/
def Conditioner.afterReset (raw : Bool) : Conditioner :=
  { edge := .rising, debounce := 2, raw := raw, level := raw, pending := none }

/-- R7: the default geometry. -/
def Geometry.default : Geometry :=
  { clampCount := 24, pitchCounts := 4096, pitchLength := 600000, homePhase := 0, homeTolerance := 64,
    reverseTolerance := 32, capacity := 32, supplyAction := .freeze }

/-- R8: the default station table. -/
def StationPlace.defaults : Vector StationPlace 7 :=
  #v[⟨0, 1024⟩, ⟨3, 2048⟩, ⟨6, 512⟩, ⟨7, 256⟩, ⟨10, 2048⟩, ⟨11, 0⟩, ⟨16, 3072⟩]

/-- R4, R8, R11, R19: the Pitch Clock after any reset, with the sampled sensor levels. -/
def PitchClock.afterReset (sensors : Vector Bool 4) : PitchClock :=
  { mode := .setup, phase := 0, clampIndex := 0, pitchCounter := 0, lag := 0, fired := Vector.replicate 7 false,
    homingTravel := 0, pitchesSinceHome := 0, standstillTravel := 0, standstillTimer := none,
    sensors := sensors.map Conditioner.afterReset, geometry := Geometry.default,
    stations := StationPlace.defaults }

/-- R11, R36, R116, R161: the default durations. -/
def Timers.default : Timers :=
  { sealIdle := 400, standstill := 250, glueSettle := 8000, heatUp := 1200, stale := 2000, openLimit := 4000,
    liftWindow := 1500, trimTimeout := 30000 }

/-- R27, R28, R32, R36, R48, R51: the Book Table after any reset. -/
def BookTable.afterReset : BookTable :=
  { slots := Vector.replicate Config.slotCount none, lastSerial := 0, announceQ := [], sealTimer := none,
    rejects := [], overrun := false, rejectsGone := 0, admitted := 0, done := 0, rejected := 0, withdrawn := 0 }

/-- R54: the default job class. -/
def JobClass.default : JobClass :=
  { millDepth := 2000, hingeOffset := 8000, glueAllow := 300, nipSqueeze := 200, spineMargin := 5000,
    sideMargin := 15000, sideUsed := true, coolBase := 30000, coolPerMm := 1000 }

/-- R56: the default gauge calibration. -/
def GaugeCal.default : GaugeCal := { sign := .add, shift := 0, offset := 0, spreadLimit := 600 }

/-- R80, R81, R85: the Carousel after any reset. -/
def Carousel.afterReset : Carousel :=
  { clampMap := List.replicate 24 none, locks := Vector.replicate 32 false, presence := false }

/-- R114: a pot after any reset, with its default limits. -/
def Pot.afterReset (low high : Nat) : Pot :=
  { low := low, high := high, hysteresis := 30, offset := 0, shift := 2, enabled := true, state := .unknown,
    filtered := 0, settle := none, heatUp := none, stale := none }

/-- R133: a channel after any reset. -/
def CamChannel.afterReset (start length : Nat) : CamChannel :=
  { start := start, length := length, activeLow := false, forced := false, window := none }

/-- R133: the eight channels after any reset: CLOSE, MILL, SPINE_GLUE, SIDE_GLUE, COVER_APPLY, NIP, OPEN, REJECT. -/
def CamChannel.defaults : Vector CamChannel 8 :=
  #v[.afterReset 0 600, .afterReset 0 3800, .afterReset 0 0, .afterReset 0 0, .afterReset 200 1200,
     .afterReset 100 1600, .afterReset 0 800, .afterReset 400 1000]

/-- R158, R160, R161: the Lift Builder after any reset. -/
def LiftBuilder.afterReset : LiftBuilder :=
  { lifts := [], lastNumber := 0, limits := { maxCount := 8, maxHeight := 100000, tolerance := 500 } }

/-- R178, R181, R185, R187, R188: the Stoppage Unit at the end of a reset. In SETUP LAMP_A is off and LAMP_B steady. -/
def Stoppage.afterReset (cause : ResetCause) (supplyLow : Bool) : Stoppage :=
  { haltCause := none, furtherCause := false, resetCause := cause,
    supply := if supplyLow then .dipping false else .clear,
    lampA := ⟨false, none⟩, lampB := ⟨true, none⟩, held := false, asserted := [] }

/-- R198: the enable set of each role after any reset (bit 0 HALT, 1 OVERDUE, 2 GLUE, 3 REJECT, 4 LIFT, 5 DUE,
6 SPACE, 7 MODE, 8 FRAME). -/
def Role.enables : Role → BitVec 9
  | .gather => 0b001001001
  | .binder => 0b010000101
  | .cover => 0b000100001
  | .trim => 0b000010011
  | .observer => 0

/-- R190, R196, R197, R198: a port at the end of a reset. -/
def Port.afterReset (role : Role) : Port :=
  { role := role, frame := .idle, collected := [], snapshot := none, taking := none, result := .ok, subject := 0,
    lastCode := 0, latches := 0, enables := role.enables, attnMode := .level, pulse := none }

/-- The part right after a power-on reset (R187). The spec gives the reset values of every register; what it takes
from pins is the model's choice here (DESIGN CHOICE, unsafe, entry 4): port P0 is strapped GATHER, P1 BINDER,
P2 COVER, P3 TRIM; every sensor is low; the supply stands; the reset cause is POWER_ON. -/
def State.reset : State :=
  { now := 0
    clock := PitchClock.afterReset (Vector.replicate 4 false)
    timers := Timers.default
    books := BookTable.afterReset
    setpoints := { classes := Vector.replicate 8 JobClass.default, gauge := GaugeCal.default }
    carousel := Carousel.afterReset
    due := []
    glue := { spine := Pot.afterReset 1700 1950, side := Pot.afterReset 1650 1900 }
    cams := CamChannel.defaults
    delivery := []
    lifting := LiftBuilder.afterReset
    stoppage := Stoppage.afterReset .powerOn false
    ports := #v[Port.afterReset .gather, Port.afterReset .binder, Port.afterReset .cover, Port.afterReset .trim]
    wires := Vector.replicate 4 PortWire.rest
    arriving := []
    pending := [] }

end Sys2Proof.Machine
end

