-- ==== Sys2Proof/Machine/Flags.lean ====
section
/-!
DEFINITION. Conditions and outputs that the spec computes from the state: occupancy, glue ready, INFEED_GATE, the pot
flags, the cam outputs, ATTN. Each is stored nowhere; it is what the spec's "re-evaluated" outputs stand at (entry 20).
-/

namespace Sys2Proof.Machine

/-- The name of a line mode, without the hold kind and the return mode: R26 calls only a change of this a change of
line mode. -/
inductive ModeName where
  | setup | homing | run | hold | runout | halted
  deriving DecidableEq, Repr

/-- The name of the line mode. -/
def LineMode.name : LineMode → ModeName
  | .setup => .setup
  | .homing => .homing
  | .run => .run
  | .hold _ _ => .hold
  | .runout => .runout
  | .halted => .halted

/-- R9: the modes in which stations fire: RUN, HOLD and RUNOUT. -/
def LineMode.stationsFire (m : LineMode) : Bool :=
  m.name == .run || m.name == .hold || m.name == .runout

/-- R23 and R24: the started modes: HOMING, RUN, HOLD and RUNOUT. -/
def LineMode.started (m : LineMode) : Bool := m.name == .homing || m.stationsFire

/-- The number of occupied clamps (R80). -/
def Carousel.occupied (c : Carousel) : Nat := c.clampMap.countP Option.isSome

/-- R22: is every clamp empty? -/
def Carousel.allEmpty (c : Carousel) : Bool := c.clampMap.all Option.isNone

/-- R80: the serial in a clamp's entry; none for an empty entry and for a number that is no clamp. -/
def Carousel.bookIn (c : Carousel) (clamp : Nat) : Option Nat := c.clampMap[clamp]?.join

/-- R81: is the clamp locked? -/
def Carousel.locked (c : Carousel) (clamp : Nat) : Bool := c.locks[clamp]?.getD false

/-- The number of books in the lift list (R158). -/
def LiftBuilder.bookCount (l : LiftBuilder) : Nat := (l.lifts.map fun x => x.books.length).sum

/-- R52: occupancy is the books in clamps, plus the delivery queue, plus the books in lifts. -/
def State.occupancy (s : State) : Nat := s.carousel.occupied + s.delivery.length + s.lifting.bookCount

/-- R124: glue is ready while the SPINE pot is READY and the SIDE pot is READY or disabled. -/
def GlueSupervisor.ready (g : GlueSupervisor) : Bool :=
  g.spine.state == .ready && (g.side.state == .ready || !g.side.enabled)

/-- R86: INFEED_GATE; inactive while the part is held in reset (R185). -/
def State.infeedGate (s : State) : Bool :=
  !s.stoppage.held && s.clock.mode == .run && s.occupancy < s.clock.geometry.capacity && s.glue.ready
    && !s.carousel.presence

/-- R123: the below-low flag: without hysteresis, clear in UNKNOWN. -/
def Pot.belowLow (p : Pot) : Bool := p.state != .unknown && p.filtered < p.low

/-- R123: the above-high flag: without hysteresis, clear in UNKNOWN. -/
def Pot.aboveHigh (p : Pot) : Bool := p.state != .unknown && p.high < p.filtered

/-- R137: a window's channel is active while the travel lies from start up to, but not including, start + length. -/
def CamWindow.active (w : CamWindow) : Bool := w.start ≤ w.travel && w.travel < w.start + w.length

/-- R141: whether a channel is active, by line mode. -/
def CamChannel.active (mode : LineMode) (c : CamChannel) : Bool :=
  match mode with
  | .setup => c.forced
  | .homing => false
  | .halted => false
  | .run | .runout | .hold _ _ => c.window.any CamWindow.active

/-- R140: the level of a cam output (true is high); low while the part is held in reset (R185). -/
def State.camOutput (s : State) (channel : Fin 8) : Bool :=
  !s.stoppage.held && ((s.cams[channel].active s.clock.mode) != s.cams[channel].activeLow)

/-- R199: whether a port's ATTN is active: in LEVEL mode while an enabled latch is set, in PULSE mode during a
pulse; never while the part is held in reset (R185). -/
def State.attnActive (s : State) (port : PortId) : Bool :=
  !s.stoppage.held &&
    match s.ports[port].attnMode with
    | .level => s.ports[port].latches &&& s.ports[port].enables != 0
    | .pulse => s.ports[port].pulse.isSome

/-- R190 and R193: is the port COLLECTING or ANSWERING a frame, so that a gap abandons it? -/
def Port.inFrame (q : Port) : Bool := q.frame == .collecting || q.frame == .answering

/-- R188: a lamp's output; both are off while the part is held in reset (R185). -/
def State.lampOutput (s : State) : LampId → Bool
  | .a => !s.stoppage.held && s.stoppage.lampA.on
  | .b => !s.stoppage.held && s.stoppage.lampB.on

/-- The live book of a serial (R28: no two live books carry the same serial). -/
def State.findBook (s : State) (serial : Nat) : Option Book :=
  s.books.slots.toList.findSome? fun slot => slot.filter fun b => b.serial == serial

/-- R32: the serial of the open book: the tail of the announce queue while it is ANNOUNCED. -/
def State.openBook (s : State) : Option Nat :=
  s.books.announceQ.getLast?.filter fun serial =>
    (s.findBook serial).any fun b => b.state == .announced

/-- The live books, in slot order (R27). -/
def BookTable.live (t : BookTable) : List Book := t.slots.toList.filterMap id

/-- R181: the number of suspect books. -/
def State.suspectCount (s : State) : Nat := s.books.live.countP Book.suspect

/-- R8: where a station stands in the station order, Infeed first. -/
def Station.index : Station → Fin 7
  | .infeed => 0
  | .mill => 1
  | .spineGlue => 2
  | .sideGlue => 3
  | .cover => 4
  | .nip => 5
  | .release => 6

/-- R8: the stations in their order. -/
def Station.all : List Station := [.infeed, .mill, .spineGlue, .sideGlue, .cover, .nip, .release]

/-- R203: a sensor's place among the conditioners. -/
def sensorIndex : Sensor → Fin 4
  | .block => 0
  | .home => 1
  | .jamA => 2
  | .jamB => 3

end Sys2Proof.Machine
end

