-- ==== Sys2Proof/Machine/Ops.lean ====
section
/-!
DEFINITION. The named operations that the meanings share: books, ports, attention, line mode, cam windows, causes,
halting. Each writes the state of the block the spec gives it and says which rule it follows.
-/

namespace Sys2Proof.Machine

/-! ### Time -/

/-- Has a timer run for its duration? A stopped timer has not, and one that has since been restarted has not either
(entry 2). -/
def isDue (now : Nat) (timer : Option Nat) : Bool := timer.any fun due => decide (due ≤ now)

/-! ### Ports and attention -/

/-- One port's own state. -/
def State.modifyPort (p : PortId) (f : Port → Port) (s : State) : State :=
  { s with ports := s.ports.set p (f s.ports[p]) }

/-- R203: the bit of an attention cause. -/
def Attention.bit : Attention → BitVec 9
  | .halt => 0b000000001
  | .overdue => 0b000000010
  | .glue => 0b000000100
  | .reject => 0b000001000
  | .lift => 0b000010000
  | .due => 0b000100000
  | .space => 0b001000000
  | .mode => 0b010000000
  | .frame => 0b100000000

/-- R197 and R199: a raise at one port sets the latch; in PULSE mode an enabled cause starts or restarts the pulse. -/
def Port.raise (now : Nat) (cause : Attention) (p : Port) : Port :=
  { p with
    latches := p.latches ||| cause.bit
    pulse := if p.attnMode == .pulse && p.enables &&& cause.bit != 0 then some (now + Config.pulseTime) else p.pulse }

/-- R197: a cause is raised at all four ports. -/
def State.raise (cause : Attention) (s : State) : State :=
  { s with ports := s.ports.map (Port.raise s.now cause) }

/-- What a command leaves at its port: a result and a subject (R196). -/
structure Reply where
  result  : Result
  subject : Nat
  deriving DecidableEq, Repr

/-- R191 and R196: the frame ends, and the port's result, subject and code are those of this frame. -/
def Port.finish (code : Byte) (r : Reply) (p : Port) : Port :=
  { p with
    frame := .idle, collected := [], snapshot := none, taking := none
    result := r.result, subject := BitVec.ofNat 16 r.subject, lastCode := code }

/-- `Port.finish` at a port of the part. -/
def State.finish (p : PortId) (code : Byte) (r : Reply) (s : State) : State := s.modifyPort p (Port.finish code r)

/-! ### Books (R27 to R30) -/

/-- Change the record of one live book. -/
def State.mapBook (serial : Nat) (f : Book → Book) (s : State) : State :=
  { s with books := { s.books with
      slots := s.books.slots.map fun slot => slot.map fun b => if b.serial = serial then f b else b } }

/-- R27: the lowest-numbered free slot takes the book. R27 shows that one is always free; were none, no slot would
change (entry 14). -/
def placeBook (slots : Vector (Option Book) Config.slotCount) (b : Book) : Vector (Option Book) Config.slotCount :=
  match (List.finRange Config.slotCount).find? fun i => slots[i].isNone with
  | some i => slots.set i (some b)
  | none => slots

/-- R47: the slot of a retired book is freed. -/
def State.freeBook (serial : Nat) (s : State) : State :=
  { s with books := { s.books with
      slots := s.books.slots.map fun slot => slot.filter fun b => b.serial != serial } }

/-- R28 and R160: the number after `n`, going from `top` to 1. -/
def numberAfter (top n : Nat) : Nat := if top ≤ n then 1 else n + 1

/-- R28 and R160: the first number, from `candidate` on, that is not held; `fuel` is how many held ones there are. -/
def nextFree (top : Nat) (held : List Nat) : (fuel : Nat) → (candidate : Nat) → Nat
  | 0, candidate => candidate
  | fuel + 1, candidate =>
    if candidate ∈ held then nextFree top held fuel (numberAfter top candidate) else candidate

/-- R28: the serial the allocator gives next. -/
def BookTable.nextSerial (t : BookTable) : Nat :=
  let held := t.live.map Book.serial
  nextFree Config.topSerial held held.length (numberAfter Config.topSerial t.lastSerial)

/-! ### Reject causes (R43) -/

/-- R43: a cause is set only on a book that has none. -/
def Book.takeCause (cause : RejectCause) (b : Book) : Book :=
  { b with cause := b.cause.or (some cause) }

/-- R43 and R102: a detector sets its cause on the book, if it has none, and the want of the book's due list entry
becomes no. -/
def State.setCause (serial : Nat) (cause : RejectCause) (s : State) : State :=
  let t := s.mapBook serial (Book.takeCause cause)
  { t with due := t.due.map fun e => if e.serial = serial then { e with want := false } else e }

/-! ### Cam windows (R135 to R143) -/

/-- R137: every window's travel grows by one; a window whose travel reaches start plus length ends. -/
def CamChannel.advance (c : CamChannel) : CamChannel :=
  { c with window := c.window.bind fun w =>
      if w.start + w.length ≤ w.travel + 1 then none else some { w with travel := w.travel + 1 } }

/-- R137: a window that has reached its end. -/
def CamWindow.ended (w : CamWindow) : Bool := w.start + w.length ≤ w.travel

/-- R135, R137 and R138: a window is begun on a channel with travel 0, in place of one in progress; a window of start
0 and length 0 ends at once. -/
def State.beginWindow (channel : Fin 8) (clamp start length : Nat) (s : State) : State :=
  let w : CamWindow := { clamp := clamp, start := start, length := length, travel := 0 }
  { s with cams := s.cams.set channel { s.cams[channel] with window := if w.ended then none else some w } }

/-- R135: a window of a fixed channel takes the channel's definition as it stands. -/
def State.beginFixed (channel : Fin 8) (clamp : Nat) (s : State) : State :=
  s.beginWindow channel clamp s.cams[channel].start s.cams[channel].length

/-- R136: the start and length with which a book's glue window is begun, by the window's E and the geometry's E. -/
def glueWindowBegun (windowE e : Nat) (w : GlueWindow) : GlueWindow :=
  if windowE = e then w
  else if w.start + w.length ≤ e then w
  else if w.start < e then { start := w.start, length := e - w.start }
  else { start := e, length := 0 }

/-- R136: a book's glue window is begun. -/
def State.beginGlue (channel : Fin 8) (clamp windowE : Nat) (w : GlueWindow) (s : State) : State :=
  let b := glueWindowBegun windowE s.clock.geometry.pitchCounts w
  s.beginWindow channel clamp b.start b.length

/-- R133: the channel numbers. -/
def Channel.close : Fin 8 := 0
def Channel.mill : Fin 8 := 1
def Channel.spineGlue : Fin 8 := 2
def Channel.sideGlue : Fin 8 := 3
def Channel.coverApply : Fin 8 := 4
def Channel.nip : Fin 8 := 5
def Channel.opening : Fin 8 := 6
def Channel.reject : Fin 8 := 7

/-- R131 and R132: a book in this clamp takes the cause. -/
def State.setCauseInClamp (clamp : Nat) (cause : RejectCause) (s : State) : State :=
  match s.carousel.bookIn clamp with
  | some serial => s.setCause serial cause
  | none => s

/-- R131 and R143: the window in progress on one glue channel ends, and the book of its clamp takes GLUE_INTERRUPTED. -/
def State.cutGlueWindow (channel : Fin 8) (s : State) : State :=
  match s.cams[channel].window with
  | none => s
  | some w =>
    let t := s.setCauseInClamp w.clamp .glueInterrupted
    { t with cams := t.cams.set channel { t.cams[channel] with window := none } }

/-- R131: both glue windows in progress are cut. -/
def State.cutGlueWindows (s : State) : State := (s.cutGlueWindow Channel.spineGlue).cutGlueWindow Channel.sideGlue

/-- R142: every window in progress ends. -/
def State.endWindows (s : State) : State :=
  { s with cams := s.cams.map fun c => { c with window := none } }

/-- R14, R142 and R144: every force state is set to off. -/
def State.releaseForces (s : State) : State :=
  { s with cams := s.cams.map fun c => { c with forced := false } }

/-! ### Line mode (R19 to R26) -/

/-- R188: how a lamp shows a mode: off, steady, or flashing with a half of so many milliseconds. -/
inductive LampPattern where
  | off | steady
  | flash (half : Nat)
  deriving DecidableEq, Repr

/-- R188: LAMP_A and LAMP_B by line mode. -/
def lampPattern (m : ModeName) : LampId → LampPattern
  | .a => match m with
    | .setup => .off
    | .homing => .flash 500
    | .run => .steady
    | .hold => .flash 1000
    | .runout => .flash 500
    | .halted => .off
  | .b => match m with
    | .setup => .steady
    | .homing => .off
    | .run => .off
    | .hold => .off
    | .runout => .steady
    | .halted => .flash 500

/-- R188: a lamp takes a pattern; a flash begins with its on half. -/
def LampPattern.begin (now : Nat) : LampPattern → Lamp
  | .off => { on := false, toggleAt := none }
  | .steady => { on := true, toggleAt := none }
  | .flash half => { on := true, toggleAt := some (now + half) }

/-- R26 and R188: a CHANGE of line mode: the mode is entered, both lamps take its pattern, and MODE is raised. -/
def State.enterMode (m : LineMode) (s : State) : State :=
  ({ s with
      clock := { s.clock with mode := m }
      stoppage := { s.stoppage with
        lampA := (lampPattern m.name .a).begin s.now
        lampB := (lampPattern m.name .b).begin s.now } } : State).raise .mode

/-- R11: the standstill timer starts or restarts with the standstill time. -/
def State.startStandstill (s : State) : State :=
  { s with clock := { s.clock with standstillTimer := some (s.now + s.timers.standstill) } }

/-- R11: the standstill timer stops. -/
def State.stopStandstill (s : State) : State :=
  { s with clock := { s.clock with standstillTimer := none } }

/-- R22, R23 and R142: SETUP is entered from a started mode; the standstill timer stops and every cam window ends. -/
def State.enterSetup (s : State) : State := (s.stopStandstill.endWindows).enterMode .setup

/-- R12, R21 and R22: the line leaves HOLD for its return mode; a return to RUNOUT with every clamp empty is a return
to SETUP. -/
def State.returnFromHold (ret : ReturnMode) (s : State) : State :=
  match ret with
  | .run => s.startStandstill.enterMode .run
  | .runout => if s.carousel.allEmpty then s.enterSetup else s.startStandstill.enterMode .runout

/-- R11, R20, R131 and R143: HOLD is entered: the standstill timer stops, the standstill travel is 0 (entry 24), and
the glue windows in progress are cut. -/
def State.enterHold (kind : HoldKind) (ret : ReturnMode) (s : State) : State :=
  let t := s.stopStandstill.cutGlueWindows
  ({ t with clock := { t.clock with standstillTravel := 0 } } : State).enterMode (.hold kind ret)

/-! ### Halting (R24, R180) -/

/-- R180 and R181: every book in a clamp is marked suspect. -/
def State.markSuspects (s : State) : State :=
  { s with books := { s.books with
      slots := s.books.slots.map fun slot => slot.map fun b =>
        if some b.serial ∈ s.carousel.clampMap then { b with suspect := true } else b } }

/-- R24, R132, R142 and R180: HALTED is entered. The glue windows in progress are cut, every window ends and every
force is released; the presence latch clears (R85); the cause is recorded and the further-cause flag cleared; the
standstill timer stops; the clamped books are suspect; HALT and MODE are raised. -/
def State.enterHalted (cause : HaltCause) (s : State) : State :=
  let t := (s.cutGlueWindows.endWindows.releaseForces.stopStandstill).markSuspects
  (({ t with
      carousel := { t.carousel with presence := false }
      stoppage := { t.stoppage with haltCause := some cause, furtherCause := false } } : State).enterMode
        .halted).raise .halt

/-- R24: a halt cause reaches the line-mode machine. In HALTED it sets the further-cause flag; in SETUP only SUPPLY is
taken; in a started mode the line halts. -/
def State.takeHaltCause (cause : HaltCause) (s : State) : State :=
  match s.clock.mode with
  | .halted => { s with stoppage := { s.stoppage with furtherCause := true } }
  | .setup => if cause = .supply then s.enterHalted cause else s
  | .homing | .run | .hold _ _ | .runout => s.enterHalted cause

/-! ### Clamps and retirement (R46 to R52, R97) -/

/-- R97: a clamp's entry is emptied; in RUNOUT, when that leaves every entry empty, the line goes to SETUP (R22). -/
def State.emptyClamp (clamp : Nat) (s : State) : State :=
  let t : State := { s with carousel := { s.carousel with clampMap := s.carousel.clampMap.set clamp none } }
  if t.clock.mode = .runout ∧ t.carousel.allEmpty = true then t.enterSetup else t

/-- R48: an entry is appended to the reject list; a full list drops its oldest entry and sets the overrun flag; REJECT
is raised. -/
def State.appendReject (e : RejectEntry) (s : State) : State :=
  let full := Config.rejectCapacity ≤ s.books.rejects.length
  ({ s with books := { s.books with
      rejects := (if full then s.books.rejects.tail else s.books.rejects) ++ [e]
      overrun := s.books.overrun || full
      rejectsGone := s.books.rejectsGone + (if full then 1 else 0) } } : State).raise .reject

/-- R48: the reject list entry of a book; its job key is 0 if it had none. A book on a reject way always carries a
cause (R46). -/
def Book.rejectEntry (b : Book) (place : Where) (cause : RejectCause) : RejectEntry :=
  { serial := b.serial, jobKey := (b.job.map Job.jobKey).getD 0, cause := b.cause.getD cause, place := place }

/-- R46 and R47: a book retires as REJECTED or REMOVED: the way's cause is set if it has none, the entry is appended,
the rejected counter grows, and the slot is freed. -/
def State.retireRejected (serial : Nat) (place : Where) (cause : RejectCause) (s : State) : State :=
  match s.findBook serial with
  | none => s
  | some b =>
    let t := s.appendReject (b.rejectEntry place cause)
    ({ t with books := { t.books with rejected := t.books.rejected + 1 } } : State).freeBook serial

/-- R46 and R47: a book retires as DONE. -/
def State.retireDone (serial : Nat) (s : State) : State :=
  ({ s with books := { s.books with done := s.books.done + 1 } } : State).freeBook serial

/-- R46 and R47: a book retires as withdrawn. -/
def State.retireWithdrawn (serial : Nat) (s : State) : State :=
  ({ s with books := { s.books with withdrawn := s.books.withdrawn + 1 } } : State).freeBook serial

/-- R32: SPACE is raised when the announce queue falls from 8 books to 7. -/
def State.raiseSpace (before : Nat) (s : State) : State :=
  if before = Config.announceCapacity ∧ s.books.announceQ.length + 1 = Config.announceCapacity then s.raise .space
  else s

/-! ### Events and reset -/

/-- R185: while the part is held in reset no frame, count, edge or expiry is taken. -/
def State.whenRunning (f : State → State) (s : State) : State := if s.stoppage.held then s else f s

end Sys2Proof.Machine
end

