-- ==== Sys2Proof/Machine/Operands.lean ====
section
/-!
DEFINITION. The operand forms of the commands: who may give them and what is answered (R191, R195, R196), values
brought into their range, and the selectors of R203.
-/

namespace Sys2Proof.Machine

/-- What every meaning answers. -/
abbrev Answer : Type := Host.Outcome State Fault Refusal

/-! ### Replies -/

def Reply.ok (subject : Nat) : Reply := ⟨.ok, subject⟩
def Reply.refused (r : Result) (subject : Nat) : Reply := ⟨r, subject⟩

/-- OK, or ADJUSTED if a value was brought into its range. -/
def Reply.taken (adjusted : Bool) (subject : Nat) : Reply := ⟨if adjusted then .adjusted else .ok, subject⟩

/-! ### Taking a command (R191, R195, R196) -/

/-- The rights of a command: the roles it is taken from (R195). -/
def Rights.gather (r : Role) : Bool := r == .gather
def Rights.binder (r : Role) : Bool := r == .binder
def Rights.cover (r : Role) : Bool := r == .cover
def Rights.trim (r : Role) : Bool := r == .trim
def Rights.notObserver (r : Role) : Bool := r != .observer
def Rights.everyone (_ : Role) : Bool := true

/-- R191 and R196: an action command at its select release. The port's role is tested first, and the refusal's
subject is `refusedSubject`; then the command's own rule `body` gives the new state and the reply. While the part is
held in reset no frame is taken (R185). -/
def State.command (p : PortId) (code : Byte) (rights : Role → Bool) (refusedSubject : Nat)
    (body : State → State × Reply) (s : State) : State :=
  s.whenRunning fun s =>
    if rights s.ports[p].role then (body s).1.finish p code (body s).2
    else s.finish p code (.refused .refusedRole refusedSubject)

/-- R195: a configuration write: from OBSERVER REFUSED_ROLE in every mode, outside SETUP REFUSED_MODE. -/
def State.configWrite (p : PortId) (code : Byte) (refusedSubject : Nat) (body : State → State × Reply)
    (s : State) : State :=
  s.command p code Rights.notObserver refusedSubject
    (fun s => if s.clock.mode = .setup then body s else (s, .refused .refusedMode refusedSubject))

/-- R19: a mode command that changes the line: OK, subject 0. -/
def modeTaken (s : State) : State × Reply := (s, .ok 0)

/-- A refusal that changes nothing. -/
def refuse (r : Result) (subject : Nat) (s : State) : State × Reply := (s, .refused r subject)

/-! ### Values brought into a range -/

/-- A value brought to the nearer end of its range. -/
def bring (lo hi : Nat) (v : Int) : Nat :=
  if v < lo then lo else if (hi : Int) < v then hi else v.toNat

/-- Was the value outside the range? -/
def outside (lo hi : Nat) (v : Int) : Bool := v < lo || (hi : Int) < v

/-- A signed value brought to the nearer end of its range. -/
def bringInt (lo hi v : Int) : Int := if v < lo then lo else if hi < v then hi else v

/-! ### Selectors (R203) -/

/-- R203: stations are numbered from 1. -/
def stationOf (b : Byte) : Option Station :=
  match b.toNat with
  | 1 => some .infeed
  | 2 => some .mill
  | 3 => some .spineGlue
  | 4 => some .sideGlue
  | 5 => some .cover
  | 6 => some .nip
  | 7 => some .release
  | _ => none

/-- R203: the sensors. -/
def sensorOf (b : Byte) : Option Sensor :=
  match b.toNat with
  | 0 => some .block
  | 1 => some .home
  | 2 => some .jamA
  | 3 => some .jamB
  | _ => none

/-- R203: the edge selects. -/
def edgeOf (b : Byte) : Option EdgeSelect :=
  match b.toNat with
  | 0 => some .rising
  | 1 => some .falling
  | 2 => some .both
  | _ => none

/-- R114: SPINE is pot 0, SIDE pot 1. -/
def potOf (b : Byte) : Option PotId :=
  match b.toNat with
  | 0 => some .spine
  | 1 => some .side
  | _ => none

/-- R133: the channels are 0 to 7. -/
def channelOf (b : Byte) : Option (Fin 8) := if h : b.toNat < 8 then some ⟨b.toNat, h⟩ else none

/-- R203: a value that is no (0) or yes (1), off or on; none for any other value. -/
def yesNo (v : Int) : Option Bool := if v = 0 then some false else if v = 1 then some true else none

/-- R133: the two glue channels have no window of their own. -/
def isGlueChannel (c : Fin 8) : Bool := c == Channel.spineGlue || c == Channel.sideGlue

/-! ### Pots -/

/-- One pot. -/
def GlueSupervisor.pot (g : GlueSupervisor) : PotId → Pot
  | .spine => g.spine
  | .side => g.side

/-- Change one pot. -/
def State.modifyPot (id : PotId) (f : Pot → Pot) (s : State) : State :=
  match id with
  | .spine => { s with glue := { s.glue with spine := f s.glue.spine } }
  | .side => { s with glue := { s.glue with side := f s.glue.side } }

/-- The number by which the ports name a pot. -/
def potNumber : PotId → Nat
  | .spine => 0
  | .side => 1

end Sys2Proof.Machine
end

