-- ==== Sys2Proof/Machine/SetPoints.lean ====
section
/-!
DEFINITION. The set-point computation at seal (R59 to R77) and lift compatibility (R78). Arithmetic is exact (R61).
-/

namespace Sys2Proof.Machine

/-- R62, stage 1: one corrected sample. -/
def correctSample (g : GaugeCal) (x : Nat) : Nat :=
  let term : Int := if g.shift = 0 then 0 else (x / 2 ^ g.shift : Nat)
  let v : Int := match g.sign with
    | .add => x + term + g.offset
    | .subtract => x - term + g.offset
  bring 0 Config.topSample v

/-- The smallest of a list of corrected samples. -/
def smallest (xs : List Nat) : Nat := xs.min?.getD 0

/-- The largest of a list of corrected samples. -/
def largest (xs : List Nat) : Nat := xs.max?.getD 0

/-- R64, stage 3: the spread is tested with two or more samples. -/
def spreadFails (limit : Nat) (xs : List Nat) : Bool :=
  2 ≤ xs.length && limit < largest xs - smallest xs

/-- R65, stage 4: with four or more samples one smallest and one largest are set aside. -/
def usedSamples (xs : List Nat) : List Nat :=
  if 4 ≤ xs.length then (xs.erase (smallest xs)).erase (largest xs) else xs

/-- R65: the mean of the samples used, an exact half rounded up. -/
def caliperOf (xs : List Nat) : Nat :=
  let used := usedSamples xs
  (used.sum + used.length / 2) / used.length

/-- R70: a score position is rounded to a multiple of 50, remainders 25 to 49 up. -/
def roundScore (x : Int) : Int := if x % 50 < 25 then x - x % 50 else x - x % 50 + 50

/-- R73 and R74: counts of a length in micrometres, at E counts per pitch P, rounded to the nearest count. -/
def countsOf (e p len : Nat) : Nat := (len * e + p / 2) / p

/-- R73: a glue window before any clipping. -/
def rawGlueWindow (e p rawHeight margin : Nat) : GlueWindow :=
  { start := countsOf e p margin, length := countsOf e p (rawHeight - 2 * margin) }

/-- R73: the clipped window. -/
def clipWindow (e : Nat) (w : GlueWindow) : GlueWindow :=
  if e < w.start + w.length then { w with length := e - w.start } else w

/-- R73: was the window clipped? -/
def windowClipped (e : Nat) (w : GlueWindow) : Bool := e < w.start + w.length

/-- R60 to R76: the thirteen stages, in order: the cause of the first stage that fails, or the set-point record with
its warnings. -/
def computeSetPoints (job : Job) (samples : List Nat) (c : JobClass) (g : GaugeCal) (e p : Nat) :
    Except RejectCause (SetPoints × Warnings) :=
  let xs := samples.map (correctSample g)
  let cal := caliperOf xs
  let spine := cal + c.glueAllow
  let fore : Int := (job.rawWidth : Int) - c.millDepth - job.width
  let height : Int := (job.rawHeight : Int) - job.height
  let head := (height.toNat / 2) / 10 * 10
  let inner1 : Int := (job.coverWidth / 2 : Nat) - ((spine + 1) / 2 : Nat)
  let inner2 := inner1 + spine
  let o1 := roundScore (inner1 - c.hingeOffset)
  let o2 := roundScore (inner2 + c.hingeOffset)
  let gap : Int := (spine : Int) - c.nipSqueeze
  let spineW := rawGlueWindow e p job.rawHeight c.spineMargin
  let sideW := rawGlueWindow e p job.rawHeight c.sideMargin
  let cool := c.coolBase + spine * c.coolPerMm / 1000
  if xs = [] then .error .noCaliper
  else if spreadFails g.spreadLimit xs then .error .wedge
  else if cal < 1500 ∨ 62000 < cal then .error .caliperRange
  else if fore < 1000 ∨ height < 2000 then .error .trimMargin
  else if job.coverWidth < 2 * job.width + spine + 4000 then .error .coverShort
  else if o1 < 10000 ∨ (job.coverWidth : Int) - 10000 < o2 then .error .scoreReach
  else .ok
    ({ caliper := cal
       spine := spine
       millDepth := c.millDepth
       headTrim := head
       footTrim := height.toNat - head
       foreTrim := fore.toNat
       outer1 := o1.toNat
       inner1 := (roundScore inner1).toNat
       inner2 := (roundScore inner2).toNat
       outer2 := o2.toNat
       nipGap := if gap < 1000 then 1000 else gap.toNat
       spineWindow := clipWindow e spineW
       sideWindow := if c.sideUsed then some (clipWindow e sideW) else none
       windowE := e
       coolingTime := min cool 600000 },
     { nipFloor := gap < 1000
       glueClipped := windowClipped e spineW
       sideClipped := c.sideUsed && windowClipped e sideW
       coolCapped := 600000 < cool })

/-- R38 and R59: what sealing does to a book: SEALED, and for a book without a cause the computation's outcome. A job
class out of range carries SPEC_RANGE (R34) and is never computed. -/
def sealedBook (u : SetPointUnit) (geo : Geometry) (b : Book) : Book :=
  let sealed := { b with state := .sealed }
  match b.cause, b.job with
  | none, some job =>
    match u.classes[job.jobClass]? with
    | some c =>
      match computeSetPoints job b.samples c u.gauge geo.pitchCounts geo.pitchLength with
      | .ok (sp, w) => { sealed with setPoints := some sp, warnings := w }
      | .error cause => { sealed with cause := some cause }
    | none => sealed
  | _, _ => sealed

/-- R38: a book is sealed and the seal timer stops. -/
def State.sealBook (serial : Nat) (s : State) : State :=
  let t := s.mapBook serial (sealedBook s.setpoints s.clock.geometry)
  { t with books := { t.books with sealTimer := none } }

/-- The larger less the smaller. -/
def differBy (a b : Nat) : Nat := (a - b) + (b - a)

/-- R78: a book is compatible with a lift's reference book. A book without job data or set-points never reaches the
delivery queue. -/
def compatible (tolerance : Nat) (reference book : Book) : Bool :=
  match reference.job, reference.setPoints, book.job, book.setPoints with
  | some rj, some rs, some bj, some bs =>
    rj.height == bj.height && rj.width == bj.width
      && differBy rs.headTrim bs.headTrim ≤ tolerance
      && differBy rs.footTrim bs.footTrim ≤ tolerance
      && differBy rs.foreTrim bs.foreTrim ≤ tolerance
  | _, _, _, _ => false

/-- R79: the spine a book adds to its lift's height. -/
def Book.spine (b : Book) : Nat := (b.setPoints.map SetPoints.spine).getD 0

end Sys2Proof.Machine
end

