-- ==== Sys2Proof/Machine/Books.lean ====
section
/-!
DEFINITION. The Book Table's commands: ANNOUNCE, CALIPER, SEAL, WITHDRAW, REJECT BOOK, TAKE REJECT, and the seal
timer (02_book_records.md).
-/

namespace Sys2Proof.Machine

/-- R36: the seal timer starts or restarts with the seal idle time. -/
def State.startSealTimer (s : State) : State :=
  { s with books := { s.books with sealTimer := some (s.now + s.timers.sealIdle) } }

/-- R38: the open book, if there is one, is sealed. -/
def State.sealOpenBook (s : State) : State :=
  match s.openBook with
  | some serial => s.sealBook serial
  | none => s

/-! ### ANNOUNCE (R33, R34) -/

/-- R34: is every job field within its range? -/
def Job.inRange (j : Job) : Bool :=
  j.jobClass ≤ 7
    && 100000 ≤ j.rawHeight && j.rawHeight ≤ 460000
    && 90000 ≤ j.height && j.height ≤ 450000
    && 80000 ≤ j.rawWidth && j.rawWidth ≤ 330000
    && 70000 ≤ j.width && j.width ≤ 320000
    && 150000 ≤ j.coverWidth && j.coverWidth ≤ 760000

/-- R30: a record created by ANNOUNCE, with the range check of R34. -/
def announcedBook (serial : Nat) (job : Job) (cover : Word32) : Book :=
  { serial := serial, state := .announced, job := some job, expectedCover := cover, samples := [],
    setPoints := none, warnings := Warnings.none, cause := if job.inRange then none else some .specRange,
    clamp := none, progress := none, admittedAt := none, suspect := false, observedCover := none,
    coverApplied := false, openTime := none, coolingDeadline := none, liftNumber := none }

/-- R33, steps 3 and 4: the new record, at the tail of the queue as the open book, and its seal timer. -/
def State.createAnnounced (job : Job) (cover : Word32) (s : State) : State :=
  let serial := s.books.nextSerial
  ({ s with books := { s.books with
      slots := placeBook s.books.slots (announcedBook serial job cover)
      lastSerial := serial
      announceQ := s.books.announceQ ++ [serial] } } : State).startSealTimer

/-- R33: ANNOUNCE from GATHER. -/
def State.announce (job : Job) (cover : Word32) (s : State) : State × Reply :=
  if Config.announceCapacity ≤ s.books.announceQ.length then refuse .refusedFull 0 s
  else
    let t := s.sealOpenBook
    (t.createAnnounced job cover, .ok t.books.nextSerial)

/-- ANNOUNCE (R33). -/
def execAnnounce (p : PortId) (jobKey : Word32) (jobClass : Byte) (hr h wr w cw : Word24) (cover : Word32)
    (s : State) : Answer :=
  .next (s.command p Code.announce Rights.gather 0
    (State.announce { jobKey := jobKey, jobClass := jobClass.toNat, rawHeight := hr.toNat, height := h.toNat,
                      rawWidth := wr.toNat, width := w.toNat, coverWidth := cw.toNat } cover))

/-! ### CALIPER (R35) -/

/-- R35: samples appended to a book's list, of which the 8 most recent stay. -/
def keepRecent (xs : List Nat) : List Nat := xs.drop (xs.length - Config.sampleCapacity)

/-- R35: CALIPER from GATHER. -/
def State.caliper (samples : List Nat) (s : State) : State × Reply :=
  if samples.length = 0 ∨ 8 < samples.length then refuse .refusedRange 0 s
  else match s.openBook with
    | none => refuse .refusedUnknown 0 s
    | some serial =>
      let t := s.mapBook serial fun b =>
        { b with samples := keepRecent (b.samples ++ samples.map (min Config.topSample)) }
      (t.startSealTimer, .taken (samples.any (Config.topSample < ·)) serial)

/-- CALIPER (R35). -/
def execCaliper (p : PortId) (samples : List Word24) (s : State) : Answer :=
  .next (s.command p Code.caliper Rights.gather 0 (State.caliper (samples.map BitVec.toNat)))

/-! ### SEAL and the seal timer (R36 to R39) -/

/-- R39: SEAL from GATHER. -/
def State.sealCommand (s : State) : State × Reply :=
  match s.openBook with
  | some serial => (s.sealBook serial, .ok serial)
  | none => refuse .refusedUnknown 0 s

/-- SEAL (R39). -/
def execSeal (p : PortId) (s : State) : Answer :=
  .next (s.command p Code.seal Rights.gather 0 State.sealCommand)

/-- SEAL_TIMER_EXPIRY (R36): the seal timer expires and the open book is sealed. -/
def execSealTimerExpiry (s : State) : Answer :=
  .next (s.whenRunning fun s =>
    if isDue s.now s.books.sealTimer then
      ({ s with books := { s.books with sealTimer := none } } : State).sealOpenBook
    else s)

/-! ### WITHDRAW and REJECT BOOK (R41, R42) -/

/-- R41: WITHDRAW from GATHER. The withdrawn open book is not sealed, and its seal timer stops. -/
def State.withdraw (serial : Nat) (s : State) : State × Reply :=
  if serial ∈ s.books.announceQ then
    let before := s.books.announceQ.length
    let timer := if s.openBook = some serial then none else s.books.sealTimer
    let t : State := { s with books := { s.books with
      announceQ := s.books.announceQ.erase serial, sealTimer := timer } }
    ((t.retireWithdrawn serial).raiseSpace before, .ok serial)
  else refuse .refusedUnknown serial s

/-- WITHDRAW (R41). -/
def execWithdraw (p : PortId) (serial : Word16) (s : State) : Answer :=
  .next (s.command p Code.withdraw Rights.gather 0 (State.withdraw serial.toNat))

/-- R42: the states in which a book can be rejected by an operator. -/
def BookState.rejectable : BookState → Bool
  | .announced | .sealed | .inClamp => true
  | .cooling | .ready | .inLift | .cutting => false

/-- R42: REJECT BOOK. -/
def State.rejectBook (serial : Nat) (s : State) : State × Reply :=
  match s.findBook serial with
  | none => refuse .refusedUnknown serial s
  | some b =>
    if b.state.rejectable then (s.setCause serial .operator, .ok serial)
    else refuse .refusedMode serial s

/-- REJECT_BOOK (R42). -/
def execRejectBook (p : PortId) (serial : Word16) (s : State) : Answer :=
  .next (s.command p Code.rejectBook Rights.notObserver 0 (State.rejectBook serial.toNat))

/-! ### TAKE REJECT (R50, R192) -/

/-- R48 and R203: the codes of the reject causes, 1 to 16. -/
def RejectCause.code : RejectCause → Nat
  | .specRange => 1
  | .unannounced => 2
  | .noCaliper => 3
  | .wedge => 4
  | .caliperRange => 5
  | .trimMargin => 6
  | .coverShort => 7
  | .scoreReach => 8
  | .glueTemp => 9
  | .coverMismatch => 10
  | .coverLate => 11
  | .openTime => 12
  | .operator => 13
  | .removed => 14
  | .trimFault => 15
  | .glueInterrupted => 16

/-- R203: where a book left. -/
def Where.code : Where → Nat
  | .release => 1
  | .trimmer => 2
  | .recovery => 3

/-- R207: a reject entry on the wire. -/
def RejectEntry.bytes (e : RejectEntry) : List Byte :=
  bytesOf 2 e.serial ++ bytesOf 4 e.jobKey.toNat ++ bytesOf 1 e.cause.code ++ bytesOf 1 e.place.code

/-- R50: the command byte completes: the oldest entry is snapshotted, from GATHER; from any other role, and from an
empty list, the answer is an entry with serial 0. -/
def State.beginTake (p : PortId) (s : State) : State :=
  let entry := if s.ports[p].role = .gather then s.books.rejects.head? else none
  s.modifyPort p fun q => { q with
    frame := .answering
    collected := [Code.takeReject]
    snapshot := some { bytes := (entry.map RejectEntry.bytes).getD (List.replicate 8 0), cyclic := false }
    taking := some { entry := entry, gone := s.books.rejectsGone } }

/-- R50: the entry at the head is removed; when that empties the list, the overrun flag is cleared. -/
def State.removeReject (s : State) : State :=
  { s with books := { s.books with
      rejects := s.books.rejects.tail
      overrun := if s.books.rejects.tail.isEmpty then false else s.books.overrun
      rejectsGone := s.books.rejectsGone + 1 } }

/-- R50: the frame ends with no effect: select was released before the entry's last byte was clocked out. -/
def Port.dropFrame (p : Port) : Port :=
  { p with frame := .idle, collected := [], snapshot := none, taking := none }

/-- R50: select is released after `answerBytes` whole answer bytes of a TAKE REJECT frame. -/
def State.endTake (p : PortId) (answerBytes : Nat) (s : State) : State :=
  match s.ports[p].taking with
  | none => s
  | some t =>
    if answerBytes < 8 then s.modifyPort p Port.dropFrame
    else if s.ports[p].role ≠ .gather then s.finish p Code.takeReject (.refused .refusedRole 0)
    else match t.entry with
      | none => s.finish p Code.takeReject (.refused .refusedUnknown 0)
      | some e =>
        if s.books.rejectsGone = t.gone then s.removeReject.finish p Code.takeReject (.ok e.serial)
        else s.finish p Code.takeReject (.refused .refusedUnknown e.serial)

/-- TAKE_REJECT (R50): one of the frame's two moments, or the whole frame. -/
def execTakeReject (p : PortId) (stage : TakeStage) (s : State) : Answer :=
  .next (s.whenRunning fun s =>
    match stage with
    | .wholeFrame answerBytes => (s.beginTake p).endTake p answerBytes
    | .commandByte => s.beginTake p
    | .release answerBytes => s.endTake p answerBytes)

end Sys2Proof.Machine
end

