-- ==== Sys2Proof/Machine/Covers.lean ====
section
/-!
DEFINITION. The Cover Matcher (05_cover_matching.md): the due list, COVER SEEN, and the decision at Cover.
-/

namespace Sys2Proof.Machine

/-- The due list entry of a book (R101). -/
def State.dueEntry (serial : Nat) (s : State) : Option DueEntry := s.due.find? fun e => e.serial == serial

/-- R101: a book's entry leaves the due list, wherever it stands. -/
def State.leaveDue (serial : Nat) (s : State) : State :=
  { s with due := s.due.filter fun e => e.serial != serial }

/-- R89, R102 and R103: an admitted book joins the tail of the due list with report none, and DUE is raised. -/
def State.joinDue (serial : Nat) (want : Bool) (s : State) : State :=
  ({ s with due := s.due ++ [{ serial := serial, want := want, received := false }] } : State).raise .due

/-! ### COVER SEEN (R107 to R109) -/

/-- R107: the report is recorded: the observed cover ID in the book's record, and the entry's report received. -/
def State.recordReport (serial : Nat) (coverId : Word32) (s : State) : State :=
  let t := s.mapBook serial fun b => { b with observedCover := some coverId }
  { t with due := t.due.map fun e => if e.serial = serial then { e with received := true } else e }

/-- R107: does the reported cover belong to the book? An expected cover ID of 0 asks for no check. -/
def Book.coverMatches (b : Book) (coverId : Word32) : Bool := b.expectedCover == 0 || b.expectedCover == coverId

/-- R109: a report for a serial without a due list entry. DESIGN CHOICE (entry 29): where the event that took a missed
Cover was the Release at which the book retired, R111 says TOO_LATE of a later report and R109 and R112 say
REFUSED_UNKNOWN of a serial that names no live book; the model follows R109 and R112. -/
def State.lateReport (serial : Nat) (s : State) : State × Reply :=
  match s.findBook serial with
  | none => refuse .refusedUnknown serial s
  | some b =>
    match b.state with
    | .announced | .sealed => refuse .refusedUnknown serial s
    | .inClamp | .cooling | .ready | .inLift | .cutting => refuse .tooLate serial s

/-- R107 to R109: COVER SEEN from COVER. -/
def State.coverSeen (serial : Nat) (coverId : Word32) (s : State) : State × Reply :=
  match s.dueEntry serial, s.findBook serial with
  | none, _ => s.lateReport serial
  | some _, none => refuse .refusedUnknown serial s
  | some e, some b =>
    if e.received then refuse .duplicate serial s
    else
      let t := s.recordReport serial coverId
      if b.cause.isSome then (t, .refused .notApplied serial)
      else if b.coverMatches coverId then (t, .ok serial)
      else (t.setCause serial .coverMismatch, .refused .notApplied serial)

/-- COVER_SEEN (R107). -/
def execCoverSeen (p : PortId) (serial : Word16) (coverId : Word32) (s : State) : Answer :=
  .next (s.command p Code.coverSeen Rights.cover 0 (State.coverSeen serial.toNat coverId))

/-! ### The decision at Cover (R110) -/

/-- R110: a book's Cover event: the entry leaves the due list; a book without a cause is covered if its report was
received, and takes COVER_LATE if not. -/
def State.coverDecision (b : Book) (clamp : Nat) (s : State) : State :=
  let received := (s.dueEntry b.serial).any DueEntry.received
  let t := s.leaveDue b.serial
  if b.cause.isSome then t
  else if received then
    (t.mapBook b.serial fun b => { b with coverApplied := true }).beginFixed Channel.coverApply clamp
  else t.setCause b.serial .coverLate

end Sys2Proof.Machine
end

