-- ==== Sys2Proof/Machine/Glue.lean ====
section
/-!
DEFINITION. The Glue Supervisor (06_glue_supervision_and_open_time.md): readings, pot states and their timers, the
checks at the glue stations, and open time.
-/

namespace Sys2Proof.Machine

/-! ### Pot states (R118 to R123) -/

/-- R119 to R122: the timers of a pot that CHANGES to a state. The settle timer runs in SETTLING only and the heat-up
timer in COLD only; UNKNOWN stops the stale timer too. -/
def Pot.enter (st : PotState) (now settleTime heatUpTime : Nat) (p : Pot) : Pot :=
  { p with
    state := st
    settle := if st = .settling then some (now + settleTime) else none
    heatUp := if st = .cold then some (now + 1000 * heatUpTime) else none
    stale := if st = .unknown then none else p.stale }

/-- R123: a pot enters a state and GLUE is raised. -/
def State.enterPotState (id : PotId) (st : PotState) (s : State) : State :=
  (s.modifyPot id (Pot.enter st s.now s.timers.glueSettle s.timers.heatUp)).raise .glue

/-- R118 and R119: a pot's state becomes `st`: a state not changed is kept with its timers; with a glue settle time of
0 a pot that enters SETTLING at once becomes READY, which is a second change. -/
def State.changePot (id : PotId) (st : PotState) (s : State) : State :=
  if (s.glue.pot id).state = st then s
  else if st = .settling ∧ s.timers.glueSettle = 0 then (s.enterPotState id .settling).enterPotState id .ready
  else s.enterPotState id st

/-- R118: the five columns of the table, taken from the left. -/
inductive Band where
  | belowBand | lowMargin | band | highMargin | aboveBand
  deriving DecidableEq, Repr

/-- R118: the column of a filtered value. -/
def Pot.bandOf (p : Pot) (v : Nat) : Band :=
  if (v : Int) < (p.low : Int) - p.hysteresis then .belowBand
  else if v < p.low then .lowMargin
  else if (v : Int) ≤ (p.high : Int) - p.hysteresis then .band
  else if v ≤ p.high then .highMargin
  else .aboveBand

/-- R118: the table of pot states. -/
def PotState.decide (before : PotState) (b : Band) : PotState :=
  match before, b with
  | .fault, _ => .fault
  | _, .aboveBand => .hot
  | _, .belowBand => .cold
  | .unknown, .lowMargin => .cold
  | .unknown, .band => .settling
  | .unknown, .highMargin => .settling
  | .cold, .lowMargin => .cold
  | .cold, .band => .settling
  | .cold, .highMargin => .settling
  | .settling, _ => .settling
  | .ready, _ => .ready
  | .hot, .lowMargin => .ready
  | .hot, .band => .ready
  | .hot, .highMargin => .hot

/-! ### GLUE READING (R117) -/

/-- R117, steps 1 and 2: the calibrated value of a raw reading. -/
def Pot.calibrate (p : Pot) (raw : Nat) : Nat :=
  bring 0 Config.topReading (((min raw Config.topReading : Nat) : Int) + p.offset)

/-- R117, step 3: the filtered value moves toward the calibrated value by the difference divided by 2 to the power of
the filter shift, truncated toward zero; a first reading is taken as it is. -/
def Pot.filter (p : Pot) (calibrated : Nat) : Nat :=
  if p.state = .unknown then calibrated
  else ((p.filtered : Int) + Int.tdiv ((calibrated : Int) - p.filtered) (2 ^ p.shift)).toNat

/-- R117: a reading for a pot. A disabled pot takes the calibrated value and nothing else. -/
def State.takeReading (id : PotId) (raw : Nat) (s : State) : State :=
  let p := s.glue.pot id
  let calibrated := p.calibrate raw
  if p.enabled then
    let v := p.filter calibrated
    let t := s.modifyPot id fun q => { q with filtered := v, stale := some (s.now + s.timers.stale) }
    t.changePot id (p.state.decide (p.bandOf v))
  else s.modifyPot id fun q => { q with filtered := calibrated }

/-- GLUE_READING (R117). -/
def execGlueReading (p : PortId) (pot : Byte) (raw : Word16) (s : State) : Answer :=
  .next (s.command p Code.glueReading Rights.binder 0 fun s =>
    match potOf pot with
    | none => refuse .refusedRange 0 s
    | some id => (s.takeReading id raw.toNat, .taken (Config.topReading < raw.toNat) (potNumber id)))

/-- CLEAR_GLUE_FAULT (R122). -/
def execClearGlueFault (p : PortId) (pot : Byte) (s : State) : Answer :=
  .next (s.command p Code.clearGlueFault Rights.binder 0 fun s =>
    match potOf pot with
    | none => refuse .refusedRange pot.toNat s
    | some id =>
      if (s.glue.pot id).state = .fault then (s.changePot id .unknown, .ok pot.toNat)
      else refuse .refusedMode pot.toNat s)

/-! ### The pot timers (R119 to R121) -/

/-- SETTLE_EXPIRY (R119): a pot whose settle timer expires is in SETTLING and becomes READY. -/
def execSettleExpiry (id : PotId) (s : State) : Answer :=
  .next (s.whenRunning fun s =>
    if isDue s.now (s.glue.pot id).settle then s.enterPotState id .ready else s)

/-- HEAT_UP_EXPIRY (R120): a pot whose heat-up timer expires is in COLD and enters FAULT. -/
def execHeatUpExpiry (id : PotId) (s : State) : Answer :=
  .next (s.whenRunning fun s =>
    if isDue s.now (s.glue.pot id).heatUp then s.enterPotState id .fault else s)

/-- STALE_EXPIRY (R121): the pot enters UNKNOWN; a pot in FAULT stays in FAULT and its timer stops. A reading taken
first has restarted the timer, and the expiry does not happen. -/
def execStaleExpiry (id : PotId) (s : State) : Answer :=
  .next (s.whenRunning fun s =>
    if isDue s.now (s.glue.pot id).stale then
      if (s.glue.pot id).state = .fault then s.modifyPot id fun q => { q with stale := none }
      else s.enterPotState id .unknown
    else s)

/-! ### The glue stations (R125, R126) -/

/-- R127: a book's open-time timer starts with the open-time limit as it stands. -/
def State.startOpenTime (serial : Nat) (s : State) : State :=
  s.mapBook serial fun b => { b with openTime := some { started := s.now, due := s.now + s.timers.openLimit } }

/-- R127: a book's open-time timer becomes idle. -/
def State.stopOpenTime (serial : Nat) (s : State) : State :=
  s.mapBook serial fun b => { b with openTime := none }

/-- R125: the SpineGlue check for a book in a clamp. -/
def State.spineGlueCheck (b : Book) (clamp : Nat) (s : State) : State :=
  if b.cause.isSome then s
  else if s.glue.spine.state = .ready then
    let t := match b.setPoints with
      | some sp => s.beginGlue Channel.spineGlue clamp sp.windowE sp.spineWindow
      | none => s
    t.startOpenTime b.serial
  else s.setCause b.serial .glueTemp

/-- R126: the SideGlue check for a book in a clamp. -/
def State.sideGlueCheck (b : Book) (clamp : Nat) (s : State) : State :=
  if b.cause.isSome then s
  else match b.setPoints with
    | none => s
    | some sp =>
      match sp.sideWindow with
      | none => s
      | some w =>
        if !s.glue.side.enabled then s
        else if s.glue.side.state = .ready then s.beginGlue Channel.sideGlue clamp sp.windowE w
        else s.setCause b.serial .glueTemp

/-- R128: the Nip event of a book: its open-time timer is cancelled, and NIP fires for a covered book without a
cause. -/
def State.nipEvent (b : Book) (clamp : Nat) (s : State) : State :=
  let t := s.stopOpenTime b.serial
  if b.coverApplied ∧ b.cause = none then t.beginFixed Channel.nip clamp else t

/-- OPEN_TIME_EXPIRY (R129): a book's open-time timer expires; a book without a cause takes OPEN_TIME. -/
def execOpenTimeExpiry (serial : Word16) (s : State) : Answer :=
  .next (s.whenRunning fun s =>
    if isDue s.now (((s.findBook serial.toNat).bind Book.openTime).map OpenTimer.due) then
      (s.stopOpenTime serial.toNat).setCause serial.toNat .openTime
    else s)

end Sys2Proof.Machine
end

