-- ==== Sys2Proof/Machine/Lifts.lean ====
section
/-!
DEFINITION. The Delivery Queue and the Lift Builder (08_delivery_and_cooling.md, 09_trim_lifts.md).
-/

namespace Sys2Proof.Machine

/-! ### The lift list (R158 to R160) -/

/-- The OPEN lift (R158: at most one). -/
def LiftBuilder.openLift (l : LiftBuilder) : Option Lift := l.lifts.find? fun x => x.state == .opened

/-- The oldest CLOSED lift. -/
def LiftBuilder.oldestClosed (l : LiftBuilder) : Option Lift := l.lifts.find? fun x => x.state == .closed

/-- The DISPATCHED lift (R158: at most one). -/
def LiftBuilder.dispatched (l : LiftBuilder) : Option Lift := l.lifts.find? fun x => x.state == .dispatched

/-- R160: the number the allocator gives next. -/
def LiftBuilder.nextNumber (l : LiftBuilder) : Nat :=
  let held := l.lifts.map Lift.number
  nextFree Config.topLiftNumber held held.length (numberAfter Config.topLiftNumber l.lastNumber)

/-- Change the lift of a number (R160: no two lifts carry the same number). -/
def State.mapLift (number : Nat) (f : Lift → Lift) (s : State) : State :=
  { s with lifting := { s.lifting with
      lifts := s.lifting.lifts.map fun l => if l.number = number then f l else l } }

/-- R166: a lift closes: CLOSED, its window timer stopped, LIFT raised. -/
def State.closeLift (number : Nat) (s : State) : State :=
  (s.mapLift number fun l => { l with state := .closed, windowTimer := none }).raise .lift

/-! ### Building (R162 to R165) -/

/-- R151 and R162: the head leaves the delivery queue for a lift. -/
def State.takeHead (serial number : Nat) (s : State) : State :=
  let t := s.mapBook serial fun b => { b with state := .inLift, liftNumber := some number }
  { t with delivery := t.delivery.tail }

/-- R162: does the book fit the OPEN lift? -/
def State.fits (b : Book) (l : Lift) (s : State) : Bool :=
  (l.books.head?.bind s.findBook).any (fun r => compatible s.lifting.limits.tolerance r b)
    && l.books.length < s.lifting.limits.maxCount
    && l.height + b.spine ≤ s.lifting.limits.maxHeight

/-- R162: the book joins the OPEN lift, whose window restarts; at max count the lift closes. A lift window of 0
expires as it starts (R165). -/
def State.joinLift (b : Book) (l : Lift) (s : State) : State :=
  let t := (s.takeHead b.serial l.number).mapLift l.number fun l =>
    { l with books := l.books ++ [b.serial], height := l.height + b.spine,
             windowTimer := some (s.now + s.timers.liftWindow) }
  if s.lifting.limits.maxCount ≤ l.books.length + 1 ∨ s.timers.liftWindow = 0 then t.closeLift l.number else t

/-- R163: a new OPEN lift with the book as its only book; with max count 1, or a lift window of 0 (R165), it closes at
once. -/
def State.newLift (b : Book) (s : State) : State :=
  let number := s.lifting.nextNumber
  let l : Lift := { number := number, state := .opened, books := [b.serial], height := b.spine, overdue := false,
                    windowTimer := some (s.now + s.timers.liftWindow), trimTimer := none }
  let t := s.takeHead b.serial number
  let u : State := { t with lifting := { t.lifting with lifts := t.lifting.lifts ++ [l], lastNumber := number } }
  if s.lifting.limits.maxCount ≤ 1 ∨ s.timers.liftWindow = 0 then u.closeLift number else u

/-- R162: the decision on an offered head: join, or close and start, or leave. The flag says whether the head was
taken. -/
def State.offer (b : Book) (s : State) : State × Bool :=
  match s.lifting.openLift with
  | some l =>
    if s.fits b l then (s.joinLift b l, true)
    else
      let t := s.closeLift l.number
      if t.lifting.lifts.length < Config.liftCapacity then (t.newLift b, true) else (t, false)
  | none => if s.lifting.lifts.length < Config.liftCapacity then (s.newLift b, true) else (s, false)

/-- R150: the head of the delivery queue, if it is READY. -/
def State.readyHead (s : State) : Option Book :=
  (s.delivery.head?.bind s.findBook).filter fun b => b.state == .ready

/-- R150 and R151: READY heads are offered one after another, until the queue is empty, a COOLING book reaches the
head, or a head is left. Each taking shortens the queue, so its length is enough fuel. -/
def State.offerHeads : (fuel : Nat) → State → State
  | 0, s => s
  | fuel + 1, s =>
    match s.readyHead with
    | none => s
    | some b =>
      let r := s.offer b
      if r.2 then State.offerHeads fuel r.1 else r.1

/-- R150: the delivery queue offers its READY heads. -/
def State.offerDelivery (s : State) : State := State.offerHeads s.delivery.length s

/-! ### Cooling (R147 to R149) -/

/-- R95 and R147: a released book joins the tail of the delivery queue, COOLING until now plus its cooling time. -/
def State.joinDelivery (b : Book) (s : State) : State :=
  let deadline := s.now + (b.setPoints.map SetPoints.coolingTime).getD 0
  let t := s.mapBook b.serial fun x => { x with state := .cooling, clamp := none, coolingDeadline := some deadline }
  { t with delivery := t.delivery ++ [b.serial] }

/-- COOLING_EXPIRY (R149): a COOLING book's deadline is reached: it is READY, and if it is the head it is offered. -/
def execCoolingExpiry (serial : Word16) (s : State) : Answer :=
  .next (s.whenRunning fun s =>
    match s.findBook serial.toNat with
    | none => s
    | some b =>
      if b.state = .cooling ∧ isDue s.now b.coolingDeadline = true then
        let t := s.mapBook serial.toNat fun b => { b with state := .ready }
        if s.delivery.head? = some serial.toNat then t.offerDelivery else t
      else s)

/-! ### Closing and the timers (R165 to R167, R171) -/

/-- WINDOW_TIMER_EXPIRY (R165): the OPEN lift's window timer expires and the lift closes. A join taken first has
restarted the timer, and the lift stays OPEN (R153). -/
def execWindowTimerExpiry (s : State) : Answer :=
  .next (s.whenRunning fun s =>
    match s.lifting.openLift with
    | none => s
    | some l => if isDue s.now l.windowTimer then s.closeLift l.number else s)

/-- TRIM_TIMER_EXPIRY (R171): the DISPATCHED lift's trim timer expires: overdue, OVERDUE raised, the timer stops. -/
def execTrimTimerExpiry (s : State) : Answer :=
  .next (s.whenRunning fun s =>
    match s.lifting.dispatched with
    | none => s
    | some l =>
      if isDue s.now l.trimTimer then
        (s.mapLift l.number fun l => { l with overdue := true, trimTimer := none }).raise .overdue
      else s)

/-- CLOSE_LIFT (R167). -/
def execCloseLift (p : PortId) (s : State) : Answer :=
  .next (s.command p Code.closeLift Rights.trim 0 fun s =>
    match s.lifting.openLift with
    | none => refuse .refusedUnknown 0 s
    | some l => (s.closeLift l.number, .ok l.number))

/-! ### TAKE LIFT and CUT DONE (R169 to R173) -/

/-- R170: a lift is dispatched: DISPATCHED, its books CUTTING, its trim timer started. -/
def State.dispatchLift (number : Nat) (books : List Nat) (s : State) : State :=
  let t := books.foldl (fun s serial => s.mapBook serial fun b => { b with state := .cutting }) s
  t.mapLift number fun l =>
    { l with state := .dispatched, overdue := false, trimTimer := some (s.now + s.timers.trimTimeout) }

/-- R169: TAKE LIFT from TRIM; the first test that applies gives the outcome. -/
def State.takeLift (number : Nat) (s : State) : State × Reply :=
  if s.lifting.dispatched.isSome then refuse .refusedBusy number s
  else match s.lifting.oldestClosed, s.lifting.openLift with
    | some c, _ =>
      if c.number = number then (s.dispatchLift number c.books, .ok number)
      else if (s.lifting.lifts.map Lift.number).contains number then refuse .refusedOrder number s
      else refuse .refusedUnknown number s
    | none, some o =>
      if o.number = number then ((s.closeLift number).dispatchLift number o.books, .ok number)
      else refuse .refusedUnknown number s
    | none, none => refuse .refusedUnknown number s

/-- TAKE_LIFT (R169). -/
def execTakeLift (p : PortId) (lift : Byte) (s : State) : Answer :=
  .next (s.command p Code.takeLift Rights.trim 0 (State.takeLift lift.toNat))

/-- R172: every book of a lift retires, in the lift's book order. -/
def State.retireLift (fault : Bool) (books : List Nat) (s : State) : State :=
  books.foldl (fun s serial =>
    if fault then s.retireRejected serial .trimmer .trimFault else s.retireDone serial) s

/-- R172: the cut lift leaves the lift list. -/
def State.removeLift (number : Nat) (s : State) : State :=
  { s with lifting := { s.lifting with lifts := s.lifting.lifts.filter fun l => l.number != number } }

/-- R172 and R173: CUT DONE from TRIM: the DISPATCHED lift's books retire, the lift leaves, and the delivery head is
offered again. -/
def State.cutDone (number : Nat) (outcome : Byte) (s : State) : State × Reply :=
  match s.lifting.dispatched with
  | none => refuse .refusedUnknown number s
  | some l =>
    if l.number ≠ number then refuse .refusedUnknown number s
    else match outcome.toNat with
      | 0 => (((s.retireLift false l.books).removeLift number).offerDelivery, .ok number)
      | 1 => (((s.retireLift true l.books).removeLift number).offerDelivery, .ok number)
      | _ => refuse .refusedRange number s

/-- CUT_DONE (R172). -/
def execCutDone (p : PortId) (lift outcome : Byte) (s : State) : Answer :=
  .next (s.command p Code.cutDone Rights.trim 0 (State.cutDone lift.toNat outcome))

end Sys2Proof.Machine
end

