-- ==== Sys2Proof/Machine/Carousel.lean ====
section
/-!
DEFINITION. The Carousel (04_the_clamp_carousel.md): admission, missed stations, station events and Release, and the
clamp locks.
-/

namespace Sys2Proof.Machine

/-! ### Clamp locks (R81, R82) -/

/-- R82: LOCK CLAMP and UNLOCK CLAMP on a clamp of the carousel. -/
def State.setLock (clamp : Byte) (locked : Bool) (s : State) : State × Reply :=
  if clamp.toNat < s.clock.geometry.clampCount then
    ({ s with carousel := { s.carousel with locks := s.carousel.locks.setIfInBounds clamp.toNat locked } },
      .ok clamp.toNat)
  else refuse .refusedRange clamp.toNat s

/-- LOCK_CLAMP (R82); the clamp is the subject of its refusals too (R100). -/
def execLockClamp (p : PortId) (clamp : Byte) (s : State) : Answer :=
  .next (s.command p Code.lockClamp Rights.notObserver clamp.toNat (State.setLock clamp true))

/-- UNLOCK_CLAMP (R82); the clamp is the subject of its refusals too (R100). -/
def execUnlockClamp (p : PortId) (clamp : Byte) (s : State) : Answer :=
  .next (s.command p Code.unlockClamp Rights.notObserver clamp.toNat (State.setLock clamp false))

/-! ### Admission (R87 to R90) -/

/-- R87: the conditions of an admission into a clamp. -/
def State.admissionHolds (clamp : Nat) (s : State) : Bool :=
  s.clock.mode == .run && s.carousel.clampMap[clamp]? == some none && !s.carousel.locked clamp
    && s.carousel.presence && s.occupancy < s.clock.geometry.capacity && s.glue.ready

/-- R30 and R40: an unannounced book. -/
def unannouncedBook (serial : Nat) : Book :=
  { serial := serial, state := .inClamp, job := none, expectedCover := 0, samples := [], setPoints := none,
    warnings := Warnings.none, cause := some .unannounced, clamp := none, progress := none, admittedAt := none,
    suspect := false, observedCover := none, coverApplied := false, openTime := none, coolingDeadline := none,
    liftNumber := none }

/-- R40: the Book Table supplies the book: the head of the announce queue, sealed first if it is open, or a new
unannounced book. The serial of the book is answered. -/
def State.supplyBook (s : State) : State × Nat :=
  match s.books.announceQ with
  | head :: rest =>
    let t := if s.openBook = some head then s.sealBook head else s
    let u : State := { t with books := { t.books with announceQ := rest } }
    (u.raiseSpace s.books.announceQ.length, head)
  | [] =>
    let serial := s.books.nextSerial
    ({ s with books := { s.books with
        slots := placeBook s.books.slots (unannouncedBook serial), lastSerial := serial } }, serial)

/-- R88 and R89: the admission of a block into a clamp. -/
def State.admitBlock (clamp : Nat) (s : State) : State :=
  let r := s.supplyBook
  let serial := r.2
  let t := r.1.mapBook serial fun b =>
    { b with state := .inClamp, clamp := some clamp, progress := some .infeed,
             admittedAt := some s.clock.pitchCounter }
  let u : State := { t with
    carousel := { t.carousel with clampMap := t.carousel.clampMap.set clamp (some serial), presence := false }
    books := { t.books with admitted := t.books.admitted + 1 } }
  let want := (u.findBook serial).any fun b => b.cause.isNone
  (u.joinDue serial want).beginFixed Channel.close clamp

/-- R87 and R90: the Infeed event. -/
def State.infeedEvent (clamp : Nat) (s : State) : State :=
  if s.admissionHolds clamp then s.admitBlock clamp else s

/-! ### Progress and missed stations (R92 to R94) -/

/-- The station order place of a progress; an absent progress is before every station but Infeed. -/
def progressIndex (progress : Option Station) : Nat := (progress.map fun st => (st.index : Nat)).getD 0

/-- R92: a station event other than Infeed concerns a book when the station lies beyond its progress. -/
def Book.concernedBy (b : Book) (st : Station) : Bool := progressIndex b.progress < st.index

/-- R94: the stations between a book's progress and a station. -/
def missedStations (progress : Option Station) (st : Station) : List Station :=
  Station.all.filter fun m => progressIndex progress < m.index && m.index < st.index

/-- R94: the outcome of one missed station. -/
def State.missStation (serial : Nat) (s : State) (m : Station) : State :=
  match m with
  | .infeed | .mill | .release => s
  | .spineGlue => s.setCause serial .glueInterrupted
  | .sideGlue =>
    match (s.findBook serial).bind Book.setPoints with
    | none => s
    | some sp =>
      if sp.sideWindow.isSome ∧ s.glue.side.enabled = true then s.setCause serial .glueInterrupted else s
  | .cover => (s.leaveDue serial).setCause serial .coverLate
  | .nip =>
    let t := s.stopOpenTime serial
    if (s.findBook serial).any Book.coverApplied then t.setCause serial .openTime else t

/-! ### Release (R95, R96) -/

/-- R95 and R96: the Release event of a clamped book. -/
def State.releaseEvent (b : Book) (clamp : Nat) (s : State) : State :=
  let t := s.beginFixed Channel.opening clamp
  match b.cause with
  | none => (t.joinDelivery b).emptyClamp clamp
  | some cause =>
    ((t.beginFixed Channel.reject clamp).retireRejected b.serial .release cause).emptyClamp clamp

/-! ### Station events (R9, R10, R93) -/

/-- R93, R95, R96, R110, R125, R126, R128: the event's own station acts on the book, whose record is read after the
missed stations. -/
def State.actAt (st : Station) (clamp serial : Nat) (s : State) : State :=
  match s.findBook serial with
  | none => s
  | some b =>
    let t := s.mapBook serial fun b => { b with progress := some st }
    match st with
    | .infeed => s
    | .mill => t.beginFixed Channel.mill clamp
    | .spineGlue => t.spineGlueCheck b clamp
    | .sideGlue => t.sideGlueCheck b clamp
    | .cover => t.coverDecision b clamp
    | .nip => t.nipEvent b clamp
    | .release => s.releaseEvent b clamp

/-- R92 to R96: a station event other than Infeed for a clamp. The missed stations are found from the book's progress
alone, for a book kept at the place of Release too (DESIGN CHOICE, unsafe: entry 31). -/
def State.workEvent (st : Station) (clamp : Nat) (s : State) : State :=
  match s.carousel.bookIn clamp with
  | none => s
  | some serial =>
    match s.findBook serial with
    | none => s
    | some b =>
      if b.concernedBy st then
        ((missedStations b.progress st).foldl (State.missStation serial) s).actAt st clamp serial
      else s

/-- R10: the clamp at a station. -/
def PitchClock.clampAt (c : PitchClock) (st : Station) : Nat :=
  (((c.clampIndex : Int) - c.stations[st.index].offset) % c.geometry.clampCount).toNat

/-- R9 and R10: a station fires: its mark is set and its event is taken for its clamp. -/
def State.fireStation (st : Station) (s : State) : State :=
  let clamp := s.clock.clampAt st
  let t : State := { s with clock := { s.clock with fired := s.clock.fired.set st.index true } }
  match st with
  | .infeed => t.infeedEvent clamp
  | .mill | .spineGlue | .sideGlue | .cover | .nip | .release => t.workEvent st clamp

/-- R9: a station fires in RUN, HOLD and RUNOUT when the phase has reached its phase and its mark is clear. -/
def State.fireIfDue (s : State) (st : Station) : State :=
  if s.clock.mode.stationsFire && s.clock.stations[st.index].phase ≤ s.clock.phase && !s.clock.fired[st.index] then
    s.fireStation st
  else s

/-- R9: the station event rule at the phase as it stands. DESIGN CHOICE (entry 28): stations due at the same count are
taken in the station order, Infeed first; where an admission and a Release fall together R91 allows either order. -/
def State.stationRule (s : State) : State := Station.all.foldl State.fireIfDue s

end Sys2Proof.Machine
end

