-- ==== Sys2Proof/Machine/LineModes.lean ====
section
/-!
DEFINITION. The Pitch Clock's counts and the line-mode machine (01_the_pitch_clock_and_line_modes.md), and the
recovery command RESOLVE CLAMP (10_stoppages_recovery_and_resets.md).
-/

namespace Sys2Proof.Machine

/-! ### Counts (R1 to R3, R11, R12, R16, R18) -/

/-- R1 and R11: every count restarts the standstill timer where it runs. -/
def State.restartStandstill (s : State) : State :=
  match s.clock.mode with
  | .run | .runout => s.startStandstill
  | .setup | .homing | .hold _ _ | .halted => s

/-- R18: HOME_MISSING is raised when the count of pitches since home exceeds N + 1. -/
def State.checkPitches (s : State) : State :=
  if s.clock.mode.stationsFire && s.clock.geometry.clampCount + 1 < s.clock.pitchesSinceHome then
    s.takeHaltCause .homeMissing
  else s

/-- R16: HOME_MISSING is raised when the homing travel exceeds (N + 2) × E in HOMING. -/
def State.checkHomingTravel (s : State) : State :=
  if s.clock.mode = .homing
      ∧ (s.clock.geometry.clampCount + 2) * s.clock.geometry.pitchCounts < s.clock.homingTravel then
    s.takeHaltCause .homeMissing
  else s

/-- R12: a STANDSTILL hold whose travel has reached 16 counts returns. -/
def State.checkStandstill (s : State) : State :=
  match s.clock.mode with
  | .hold .standstill ret =>
    if Config.standstillReturnTravel ≤ s.clock.standstillTravel then s.returnFromHold ret else s
  | .hold .commanded _ | .setup | .homing | .run | .runout | .halted => s

/-- R1 and R2: the position after one advance of the high-water mark. -/
def PitchClock.advance (c : PitchClock) : PitchClock :=
  if c.phase + 1 < c.geometry.pitchCounts then { c with phase := c.phase + 1 }
  else { c with
    phase := 0
    pitchCounter := c.pitchCounter + 1
    clampIndex := (c.clampIndex + 1) % c.geometry.clampCount
    fired := Vector.replicate 7 false
    pitchesSinceHome := if c.mode.stationsFire then c.pitchesSinceHome + 1 else c.pitchesSinceHome }

/-- R12 and R14: the travel counts of HOMING and of a STANDSTILL hold grow with each advance. -/
def PitchClock.countTravel (c : PitchClock) : PitchClock :=
  match c.mode with
  | .homing => { c with homingTravel := c.homingTravel + 1 }
  | .hold .standstill _ => { c with standstillTravel := c.standstillTravel + 1 }
  | .hold .commanded _ | .setup | .run | .runout | .halted => c

/-- One advance of the high-water mark (R1, R2, R9, R12, R16, R18, R137). The windows advance first, so that a window
that ends at this count has ended before a station begins the next (R138); the count of pitches is checked within the
wrap (R2); the stations fire; then the travel counts of HOMING and STANDSTILL are checked (entry 9). -/
def State.advance (s : State) : State :=
  let t : State := { s with clock := s.clock.advance, cams := s.cams.map CamChannel.advance }
  let u := t.checkPitches.stationRule
  ({ u with clock := u.clock.countTravel } : State).checkHomingTravel.checkStandstill

/-- FORWARD_COUNT (R1). -/
def execForwardCount (s : State) : Answer :=
  .next (s.whenRunning fun s =>
    if s.clock.mode = .halted then s
    else
      let t := s.restartStandstill
      if 0 < s.clock.lag then { t with clock := { t.clock with lag := t.clock.lag - 1 } } else t.advance)

/-- REVERSE_COUNT (R1, R3). At the reverse tolerance a started mode raises REVERSE and the lag stays. ABOVE it, which
only a write of a smaller tolerance in SETUP leaves, the lag is a free value (entry 10). -/
def execReverseCount (s : State) : Answer :=
  .next (s.whenRunning fun s =>
    if s.clock.mode = .halted then s
    else
      let t := s.restartStandstill
      let tol := s.clock.geometry.reverseTolerance
      if s.clock.lag < tol then { t with clock := { t.clock with lag := t.clock.lag + 1 } }
      else
        let u : State := if s.clock.lag = tol then t
          else { t with clock := { t.clock with lag := Config.lagPastTolerance s.clock.lag tol } }
        if s.clock.mode = .setup then u else u.takeHaltCause .reverse)

/-- HOMING_TRAVEL_LIMIT (R16): taken within the advance that reaches it (entry 8); named alone, it acts in a state
that stands beyond the limit. -/
def execHomingTravelLimit (s : State) : Answer := .next (s.whenRunning State.checkHomingTravel)

/-- PITCHES_SINCE_HOME_LIMIT (R18): taken within the wrap that reaches it (entry 8). -/
def execPitchesSinceHomeLimit (s : State) : Answer := .next (s.whenRunning State.checkPitches)

/-- STANDSTILL_RETURN (R12): taken within the advance that makes the count 16 (entry 8). -/
def execStandstillReturn (s : State) : Answer := .next (s.whenRunning State.checkStandstill)

/-- STANDSTILL_EXPIRY (R11): the standstill timer expires and the line enters a STANDSTILL hold. -/
def execStandstillExpiry (s : State) : Answer :=
  .next (s.whenRunning fun s =>
    if isDue s.now s.clock.standstillTimer then
      match s.clock.mode with
      | .run => s.enterHold .standstill .run
      | .runout => s.enterHold .standstill .runout
      | .setup | .homing | .hold _ _ | .halted => s
    else s)

/-! ### START (R13, R14) -/

/-- C1: each station's place lies strictly beyond the one before. -/
def placesIncrease : List StationPlace → Bool
  | a :: b :: rest => (a.offset < b.offset || (a.offset == b.offset && a.phase < b.phase)) && placesIncrease (b :: rest)
  | _ => true

/-- C5: a fixed channel's window lies within one pitch. -/
def fixedWindowsFit (e : Nat) (cams : Vector CamChannel 8) : Bool :=
  (List.finRange 8).all fun c => isGlueChannel c || cams[c].start + cams[c].length ≤ e

/-- C6: an enabled pot's high limit lies more than the hysteresis above its low limit. -/
def Pot.limitsFit (p : Pot) : Bool := !p.enabled || p.low + p.hysteresis < p.high

/-- C8: a book in a clamp is suspect. -/
def State.suspectClamped (s : State) : Bool :=
  s.carousel.clampMap.any fun entry => (entry.bind s.findBook).any Book.suspect

/-- R13: the START check: the number of the first check that fails. -/
def State.startCheck (s : State) : Option Nat :=
  let g := s.clock.geometry
  if !placesIncrease s.clock.stations.toList then some 1
  else if g.clampCount ≤ s.clock.stations[6].offset then some 2
  else if g.pitchCounts ≤ g.homePhase then some 3
  else if s.clock.stations.toList.any fun p => g.pitchCounts ≤ p.phase then some 4
  else if !fixedWindowsFit g.pitchCounts s.cams then some 5
  else if !(s.glue.spine.limitsFit && s.glue.side.limitsFit) then some 6
  else if s.lifting.limits.maxHeight < s.lifting.limits.tolerance then some 7
  else if s.suspectClamped then some 8
  else none

/-- R14: START is taken. -/
def State.beginHoming (s : State) : State :=
  ({ s.releaseForces with
      carousel := { s.carousel with presence := false }
      clock := { s.clock with
        lag := 0, homingTravel := 0, pitchesSinceHome := 0, fired := Vector.replicate 7 false } } : State).enterMode
    .homing

/-- START (R13, R14). -/
def execStart (p : PortId) (s : State) : Answer :=
  .next (s.command p Code.start Rights.binder 0 fun s =>
    if s.clock.mode = .setup then
      match s.startCheck with
      | some check => refuse .refusedRange check s
      | none => modeTaken s.beginHoming
    else refuse .refusedMode 0 s)

/-! ### HOLD, RESUME, RUNOUT, STOP, CLEAR HALT (R20 to R25) -/

/-- HOLD (R20). -/
def execHold (p : PortId) (s : State) : Answer :=
  .next (s.command p Code.hold Rights.binder 0 fun s =>
    match s.clock.mode with
    | .run => modeTaken (s.enterHold .commanded .run)
    | .runout => modeTaken (s.enterHold .commanded .runout)
    | .hold .standstill ret =>
      modeTaken { s with clock := { s.clock with mode := .hold .commanded ret, standstillTravel := 0 } }
    | .hold .commanded _ => modeTaken s
    | .setup | .homing | .halted => refuse .refusedMode 0 s)

/-- RESUME (R21). -/
def execResume (p : PortId) (s : State) : Answer :=
  .next (s.command p Code.resume Rights.binder 0 fun s =>
    match s.clock.mode with
    | .hold .commanded ret => modeTaken (s.returnFromHold ret)
    | .hold .standstill _ | .setup | .homing | .run | .runout | .halted => refuse .refusedMode 0 s)

/-- RUNOUT (R22). -/
def execRunout (p : PortId) (s : State) : Answer :=
  .next (s.command p Code.runout Rights.binder 0 fun s =>
    match s.clock.mode with
    | .run => modeTaken (if s.carousel.allEmpty then s.enterSetup else s.enterMode .runout)
    | .hold kind _ => modeTaken { s with clock := { s.clock with mode := .hold kind .runout } }
    | .runout => modeTaken s
    | .setup | .homing | .halted => refuse .refusedMode 0 s)

/-- STOP (R23). -/
def execStop (p : PortId) (s : State) : Answer :=
  .next (s.command p Code.stop Rights.binder 0 fun s =>
    if s.clock.mode.started && s.carousel.allEmpty then modeTaken s.enterSetup else refuse .refusedMode 0 s)

/-- CLEAR_HALT (R25). -/
def execClearHalt (p : PortId) (s : State) : Answer :=
  .next (s.command p Code.clearHalt Rights.binder 0 fun s =>
    if s.clock.mode = .halted then
      modeTaken (({ s with
        clock := { s.clock with lag := 0 }
        stoppage := { s.stoppage with haltCause := none, furtherCause := false } } : State).enterMode .setup)
    else refuse .refusedMode 0 s)

/-! ### RESOLVE CLAMP (R182, R183) -/

/-- R182: KEEP: the book of the clamp is no longer suspect. -/
def State.keepBook (serial : Nat) (s : State) : State := s.mapBook serial fun b => { b with suspect := false }

/-- R104 and R183: REMOVE: the book retires as REMOVED, leaves the due list, and its clamp is emptied. -/
def State.removeBook (serial clamp : Nat) (s : State) : State :=
  ((s.leaveDue serial).retireRejected serial .recovery .removed).emptyClamp clamp

/-- R182: the tests of RESOLVE CLAMP, in their order, for a decision byte (0 KEEP, 1 REMOVE). -/
def State.resolveClamp (clamp decision : Byte) (s : State) : State × Reply :=
  let c := clamp.toNat
  if s.clock.mode ≠ .setup then refuse .refusedMode c s
  else if s.clock.geometry.clampCount ≤ c then refuse .refusedRange c s
  else if 1 < decision.toNat then refuse .refusedRange c s
  else match s.carousel.bookIn c with
    | none => refuse .refusedUnknown c s
    | some serial => (if decision = 0 then s.keepBook serial else s.removeBook serial c, .ok c)

/-- RESOLVE_CLAMP_KEEP (R182); a decision byte that names neither decision is refused. -/
def execResolveClampKeep (p : PortId) (clamp decision : Byte) (s : State) : Answer :=
  .next (s.command p Code.resolveClamp Rights.binder 0 (State.resolveClamp clamp decision))

/-- RESOLVE_CLAMP_REMOVE (R183). -/
def execResolveClampRemove (p : PortId) (clamp : Byte) (s : State) : Answer :=
  .next (s.command p Code.resolveClamp Rights.binder 0 (State.resolveClamp clamp 1))

end Sys2Proof.Machine
end

