-- ==== Sys2Proof/Machine/Events.lean ====
section
/-!
DEFINITION. The inputs and timers outside the ports: sensor conditioning and edges (R5, R15, R17, R84, R177), the
supply monitor (R178, R179), resets (R185 to R187), cam window ends (R137) and lamps (R188).
-/

namespace Sys2Proof.Machine

/-! ### Edges (R15, R17, R84, R177) -/

/-- R15: the first HOME edge of HOMING ends homing. R184's places at home follow from the clamp index, the phase and the
fired marks set here, but for a kept book at the very place of Release, which R184 counts among those with stations
missed: with Release's mark set, it goes round and misses none by R92 to R94 (DESIGN CHOICE, unsafe: entry 31). -/
def State.takeHome (s : State) : State :=
  let home := s.clock.geometry.homePhase
  let t : State := { s with clock := { s.clock with
    clampIndex := 0, phase := home, lag := 0, pitchesSinceHome := 0
    fired := s.clock.stations.map fun p => decide (p.phase ≤ home) } }
  t.startStandstill.enterMode .run

/-- R17: how far the edge came from the believed home, and the clamp index in effect. -/
def PitchClock.homeOffset (c : PitchClock) : Int × Nat :=
  let e : Int := c.geometry.pitchCounts
  let n : Int := c.geometry.clampCount
  let δ : Int := (c.phase : Int) - c.geometry.homePhase
  if e < 2 * δ then (δ - e, (((c.clampIndex : Int) + 1) % n).toNat)
  else if 2 * δ ≤ -e then (δ + e, (((c.clampIndex : Int) - 1) % n).toNat)
  else (δ, c.clampIndex)

/-- R17: is a HOME edge accepted? -/
def PitchClock.homeAccepted (c : PitchClock) : Bool :=
  c.homeOffset.1.natAbs ≤ c.geometry.homeTolerance && c.homeOffset.2 == 0

/-- R15 and R17: a HOME edge by line mode. -/
def State.homeEdge (s : State) : State :=
  match s.clock.mode with
  | .homing => s.takeHome
  | .run | .hold _ _ | .runout =>
    if s.clock.homeAccepted then { s with clock := { s.clock with pitchesSinceHome := 0 } }
    else s.takeHaltCause .homeMismatch
  | .setup | .halted => s

/-- R84: a BLOCK edge sets the presence latch in a started mode. -/
def State.blockEdge (s : State) : State :=
  if s.clock.mode.started then { s with carousel := { s.carousel with presence := true } } else s

/-- R5 and R177: the receiver of each sensor's edge. -/
def State.sensorEdge (sensor : Sensor) (s : State) : State :=
  match sensor with
  | .block => s.blockEdge
  | .home => s.homeEdge
  | .jamA => s.takeHaltCause .jamA
  | .jamB => s.takeHaltCause .jamB

/-! ### Conditioning (R5, R6) -/

/-- R6: does a change to a level match the edge select? -/
def EdgeSelect.reports : EdgeSelect → (newLevel : Bool) → Bool
  | .rising, level => level
  | .falling, level => !level
  | .both, _ => true

/-- Change one conditioner. -/
def State.modifySensor (n : Sensor) (f : Conditioner → Conditioner) (s : State) : State :=
  { s with clock := { s.clock with
      sensors := s.clock.sensors.set (sensorIndex n) (f s.clock.sensors[sensorIndex n]) } }

/-- R5 and R6: a conditioned change to the raw level; it is reported as an edge if it matches the edge select. -/
def State.conditionedChange (n : Sensor) (level : Bool) (s : State) : State :=
  let t := s.modifySensor n fun c => { c with level := level, pending := none }
  if (s.clock.sensors[sensorIndex n]).edge.reports level then t.sensorEdge n else t

/-- SENSOR_RAW_CHANGE (R5): a raw input takes a level. A level opposite to the conditioned level begins a pending
change, or with a debounce time of 0 is a conditioned change at once; a return to the conditioned level drops the
pending change. -/
def execSensorRawChange (n : Sensor) (level : Bool) (s : State) : Answer :=
  .next (s.whenRunning fun s =>
    let c := s.clock.sensors[sensorIndex n]
    if c.raw = level then s
    else
      let t := s.modifySensor n fun c => { c with raw := level }
      if level = c.level then t.modifySensor n fun c => { c with pending := none }
      else if c.debounce = 0 then t.conditionedChange n level
      else t.modifySensor n fun c => { c with pending := some (s.now + c.debounce) })

/-- DEBOUNCE_EXPIRY (R5): a pending change has held for its debounce time. -/
def execDebounceExpiry (n : Sensor) (s : State) : Answer :=
  .next (s.whenRunning fun s =>
    let c := s.clock.sensors[sensorIndex n]
    if isDue s.now c.pending then s.conditionedChange n (!c.level) else s)

/-! ### Reset (R185 to R187, R194) -/

/-- R185: one more reset source stands. -/
def State.assertReset (source : ResetCause) (s : State) : State :=
  if source ∈ s.stoppage.asserted then s
  else { s with stoppage := { s.stoppage with asserted := s.stoppage.asserted ++ [source] } }

/-- R185, R186: a reset source is asserted. A reset begins: the part is held, the source is recorded as its cause,
frames in progress are dropped, pulses end. Asserted while the part is already held, a source lengthens the reset to
its own end and leaves the recorded cause. -/
def State.beginReset (cause : ResetCause) (s : State) : State :=
  if s.stoppage.held then s.assertReset cause
  else { s with
    stoppage := { s.stoppage with held := true, resetCause := cause, asserted := [cause] }
    ports := s.ports.map fun p =>
      { p with frame := .idle, collected := [], snapshot := none, taking := none, pulse := none } }

/-- R194: the role a port's straps spell; ROLE_A is the more significant bit. -/
def strapRole : Straps → Role
  | ⟨false, false⟩ => .gather
  | ⟨false, true⟩ => .binder
  | ⟨true, false⟩ => .cover
  | ⟨true, true⟩ => .trim

/-- R194: the role a port takes: its straps' role, or OBSERVER if a lower-numbered port straps the same. -/
def roleOf (straps : Vector Straps 4) (port : PortId) : Role :=
  if (List.finRange 4).any fun i => decide (i < port) && straps[i] == straps[port] then .observer
  else strapRole straps[port]

/-- R187: the part at the end of a reset, with the levels sampled then (R5, R194) and the supply monitor from where the
supply stands, a dip's measurement starting at this moment (R178). The time, the queue of waiting commands and the
line events still to arrive are the model's own and go on. -/
def State.afterReset (sample : ResetSample) (s : State) : State :=
  { State.reset with
    now := s.now
    clock := PitchClock.afterReset sample.sensors
    stoppage := Stoppage.afterReset s.stoppage.resetCause (s.stoppage.supply != .clear)
    ports := Vector.ofFn fun p => Port.afterReset (roleOf sample.straps p)
    arriving := s.arriving
    pending := s.pending }

/-- POWER_ON_RESET (R185). -/
def execPowerOnReset (s : State) : Answer := .next (s.beginReset .powerOn)

/-- PIN_RESET (R185). -/
def execPinReset (s : State) : Answer := .next (s.beginReset .pin)

/-- RESET_DEVICE (R186): from BINDER a reset of cause COMMAND begins at select release, and no result of the command
remains; from any other role it is refused. -/
def execResetDevice (p : PortId) (s : State) : Answer :=
  .next (s.whenRunning fun s =>
    if Rights.binder s.ports[p].role then s.beginReset .command
    else s.finish p Code.resetDevice (.refused .refusedRole 0))

/-- R185: can this source's assertion end? It stands; and power-up and a SUPPLY reset, which last until the supply
stands, do not end while it is below the threshold. -/
def State.sourceEnds (source : ResetCause) (s : State) : Bool :=
  decide (source ∈ s.stoppage.asserted)
    && (decide (source = .pin ∨ source = .command) || decide (s.stoppage.supply = .clear))

/-- RESET_END (R185, R187): a source's assertion ends; with no other source standing the reset ends, and otherwise the
part is held on. A source that does not stand, or whose condition has not ended, ends nothing (entry 11). -/
def execResetEnd (sample : ResetSample) (s : State) : Answer :=
  .next (
    if s.stoppage.held && s.sourceEnds sample.source then
      let rest := s.stoppage.asserted.erase sample.source
      if rest = [] then s.afterReset sample
      else { s with stoppage := { s.stoppage with asserted := rest } }
    else s)

/-! ### The supply monitor (R178, R179) -/

/-- R178: the monitor enters a state. -/
def State.setSupply (m : SupplyMonitor) (s : State) : State := { s with stoppage := { s.stoppage with supply := m } }

/-- SUPPLY_DIP_START (R178): the supply falls below the threshold, in a reset as well. -/
def execSupplyDipStart (s : State) : Answer :=
  .next (match s.stoppage.supply with
    | .clear => s.setSupply (.dipping false)
    | .dipping _ => s)

/-- SUPPLY_RETURN (R178): the supply is back at or above the threshold, in a reset as well. -/
def execSupplyReturn (s : State) : Answer := .next (s.setSupply .clear)

/-- SUPPLY_EVENT (R178, R179): the dip has lasted 100 µs: one event of this dip, acted on with the supply action as it
stands. -/
def execSupplyEvent (s : State) : Answer :=
  .next (s.whenRunning fun s =>
    match s.stoppage.supply with
    | .clear | .dipping true => s
    | .dipping false =>
      let t := s.setSupply (.dipping true)
      match s.clock.geometry.supplyAction with
      | .freeze => t.takeHaltCause .supply
      | .reset => t.beginReset .supply)

/-! ### Cam window ends and lamps (R137, R188) -/

/-- CAM_WINDOW_END (R137): a window whose travel has reached start plus length ends. The advance that reaches it ends it
already (entry 8). -/
def execCamWindowEnd (channel : Fin 8) (s : State) : Answer :=
  .next (s.whenRunning fun s =>
    if s.cams[channel].window.any CamWindow.ended then
      { s with cams := s.cams.set channel { s.cams[channel] with window := none } }
    else s)

/-- R188: a flashing lamp's half that is over ends, and the next half begins where it ended. -/
def Lamp.toggle (now half : Nat) (l : Lamp) : Lamp :=
  if isDue now l.toggleAt then { on := !l.on, toggleAt := l.toggleAt.map (· + half) } else l

/-- R188: the half of a lamp's flash in a mode; 0 when it does not flash. -/
def LampPattern.half : LampPattern → Nat
  | .off | .steady => 0
  | .flash half => half

/-- LAMP_FLASH_TOGGLE (R188): a flashing lamp changes level; a lamp that does not flash has no half to end. -/
def execLampFlashToggle (lamp : LampId) (s : State) : Answer :=
  .next (s.whenRunning fun s =>
    let half := (lampPattern s.clock.mode.name lamp).half
    match lamp with
    | .a => { s with stoppage := { s.stoppage with lampA := s.stoppage.lampA.toggle s.now half } }
    | .b => { s with stoppage := { s.stoppage with lampB := s.stoppage.lampB.toggle s.now half } })

end Sys2Proof.Machine
end

