-- ==== Sys2Proof/Machine/PortEvents.lean ====
section
/-!
DEFINITION. The commands and events of the ports themselves (11_station_ports.md): SET ATTENTION, CLEAR ATTENTION,
FRAME_ERROR, FRAME_ABANDON, ATTN_PULSE_END.
-/

namespace Sys2Proof.Machine

/-- R198 and R201: a mask of the nine causes; none when any of bits 9 to 15 is set. -/
def causeMask (mask : Word16) : Option (BitVec 9) :=
  if mask.toNat < 512 then some (BitVec.ofNat 9 mask.toNat) else none

/-- R203: the attention modes. -/
def attnModeOf (b : Byte) : Option AttnMode :=
  match b.toNat with
  | 0 => some .level
  | 1 => some .pulse
  | _ => none

/-- R198 and R199: a taken SET ATTENTION. A pulse in progress goes on only from PULSE to PULSE: the change to LEVEL
ends it, and the change to PULSE leaves ATTN inactive until the next pulse. -/
def Port.setAttention (enables : BitVec 9) (attnMode : AttnMode) (p : Port) : Port :=
  { p with enables := enables, attnMode := attnMode
           pulse := if p.attnMode = .pulse ∧ attnMode = .pulse then p.pulse else none }

/-- SET_ATTENTION (R198). -/
def execSetAttention (p : PortId) (enables : Word16) (attnMode : Byte) (s : State) : Answer :=
  .next (s.command p Code.setAttention Rights.everyone 0 fun s =>
    match causeMask enables, attnModeOf attnMode with
    | some e, some m => (s.modifyPort p (Port.setAttention e m), .ok 0)
    | _, _ => refuse .refusedRange 0 s)

/-- CLEAR_ATTENTION (R201): the latches of the mask are cleared on its own port. -/
def execClearAttention (p : PortId) (mask : Word16) (s : State) : Answer :=
  .next (s.command p Code.clearAttention Rights.everyone 0 fun s =>
    match causeMask mask with
    | some m => (s.modifyPort p fun q => { q with latches := q.latches &&& ~~~m }, .ok 0)
    | none => refuse .refusedRange 0 s)

/-- R193: what a FRAME_ERROR leaves at its port: the result, the code received as subject and code (0x00 as the code
where no whole byte came: entry 30), and the FRAME cause raised on this port only; the frame ends in the given state. -/
def Port.frameFailed (now : Nat) (state : FrameState) (code : Byte) (p : Port) : Port :=
  ({ p.finish code ⟨.frameError, code.toNat⟩ with frame := state }).raise now .frame

/-- FRAME_ERROR (R193): a frame of an unknown code or a wrong length ends at select release. A frame that is no such
error leaves everything as it is (entry 21). -/
def execFrameError (p : PortId) (bytes : List Byte) (partialByte : Bool) (s : State) : Answer :=
  .next (s.whenRunning fun s =>
    if isFrameError bytes partialByte then s.modifyPort p (Port.frameFailed s.now .idle (receivedCode bytes)) else s)

/-- R193: is this frame of the port abandoned? With select low on the port's lines it is the frame in COLLECTING or
ANSWERING, once 2 ms have passed without a clock edge. With select high there the row stands for a whole frame of its
own (entries 5 and 21). -/
def State.abandons (p : PortId) (bytes : List Byte) (s : State) : Bool :=
  match s.wires[p].gap with
  | some due => decide (due ≤ s.now) && s.ports[p].inFrame && s.ports[p].collected == bytes
  | none => isAbandonable bytes

/-- FRAME_ABANDON (R193): select stays low for 2 ms without a clock edge, in COLLECTING or ANSWERING; the port
discards until select rises. -/
def execFrameAbandon (p : PortId) (bytes : List Byte) (s : State) : Answer :=
  .next (s.whenRunning fun s =>
    if s.abandons p bytes then s.modifyPort p (Port.frameFailed s.now .discarding (receivedCode bytes)) else s)

/-- ATTN_PULSE_END (R199): the attention pulse ends, unless a raise has restarted it since (entry 2). -/
def execAttnPulseEnd (p : PortId) (s : State) : Answer :=
  .next (s.whenRunning fun s =>
    if isDue s.now s.ports[p].pulse then s.modifyPort p fun q => { q with pulse := none } else s)

end Sys2Proof.Machine
end

