-- ==== Sys2Proof/Machine/Configure.lean ====
section
/-!
DEFINITION. The configuration writes (R195): SET GEOMETRY, STATION, SENSOR, CAM WINDOW, JOB CLASS, GAUGE CAL, GLUE,
TIMERS, LIFT LIMITS, and FORCE CAM. The value operand of a configuration write is signed (R202).
-/

namespace Sys2Proof.Machine

/-! ### SET GEOMETRY (R7) -/

/-- R7: one geometry field. -/
def State.setGeo (f : Geometry → Geometry) (s : State) : State :=
  { s with clock := { s.clock with geometry := f s.clock.geometry } }

/-- R4, R7, R80 and R81: a write of N: k is 0, the map holds N empty entries, locks at or above N go. -/
def State.writeClampCount (n : Nat) (s : State) : State :=
  let t := s.setGeo fun g => { g with clampCount := n }
  { t with
    clock := { t.clock with clampIndex := 0 }
    carousel := { t.carousel with
      clampMap := List.replicate n none
      locks := Vector.ofFn fun i : Fin 32 => t.carousel.locks[i] && decide (i.val < n) } }

/-- R4 and R7: a write of E: phase and lag are 0 and the fired marks are clear. -/
def State.writePitchCounts (e : Nat) (s : State) : State :=
  let t := s.setGeo fun g => { g with pitchCounts := e }
  { t with clock := { t.clock with phase := 0, lag := 0, fired := Vector.replicate 7 false } }

/-- R7: SET GEOMETRY in SETUP. -/
def State.setGeometry (field : Byte) (v : Int) (s : State) : State × Reply :=
  let e := s.clock.geometry.pitchCounts
  match field.toNat with
  | 0 =>
    if s.carousel.allEmpty then (s.writeClampCount (bring 8 32 v), .taken (outside 8 32 v) 0)
    else refuse .refusedMode 0 s
  | 1 => (s.writePitchCounts (bring 1024 16384 v), .taken (outside 1024 16384 v) 0)
  | 2 => (s.setGeo fun g => { g with pitchLength := bring 200000 1200000 v }, .taken (outside 200000 1200000 v) 0)
  | 3 => (s.setGeo fun g => { g with homePhase := bring 0 (e - 1) v }, .taken (outside 0 (e - 1) v) 0)
  | 4 => (s.setGeo fun g => { g with homeTolerance := bring 8 512 v }, .taken (outside 8 512 v) 0)
  | 5 => (s.setGeo fun g => { g with reverseTolerance := bring 4 256 v }, .taken (outside 4 256 v) 0)
  | 6 =>
    if bring 1 48 v < s.occupancy then refuse .refusedRange 0 s
    else (s.setGeo fun g => { g with capacity := bring 1 48 v }, .taken (outside 1 48 v) 0)
  | 7 =>
    if v = 0 then (s.setGeo fun g => { g with supplyAction := .freeze }, .ok 0)
    else if v = 1 then (s.setGeo fun g => { g with supplyAction := .reset }, .ok 0)
    else refuse .refusedRange 0 s
  | _ => refuse .refusedRange 0 s

/-- SET_GEOMETRY (R7). -/
def execSetGeometry (p : PortId) (field : Byte) (value : Word32) (s : State) : Answer :=
  .next (s.configWrite p Code.setGeometry 0 (State.setGeometry field value.toInt))

/-! ### SET STATION (R8) and SET SENSOR (R6) -/

/-- R8: SET STATION in SETUP; the Infeed offset is fixed at 0. -/
def State.setStation (station d : Byte) (phase : Word16) (s : State) : State × Reply :=
  match stationOf station with
  | none => refuse .refusedRange 0 s
  | some st =>
    let g := s.clock.geometry
    let top := if st = .infeed then 0 else g.clampCount - 1
    let place : StationPlace := { offset := min d.toNat top, phase := min phase.toNat (g.pitchCounts - 1) }
    ({ s with clock := { s.clock with stations := s.clock.stations.set st.index place } },
      .taken (top < d.toNat || g.pitchCounts - 1 < phase.toNat) 0)

/-- SET_STATION (R8). -/
def execSetStation (p : PortId) (station d : Byte) (phase : Word16) (s : State) : Answer :=
  .next (s.configWrite p Code.setStation 0 (State.setStation station d phase))

/-- R6: SET SENSOR in SETUP; BOTH for HOME is brought to RISING. A pending change keeps the time it began with. -/
def State.setSensor (sensor edge debounce : Byte) (s : State) : State × Reply :=
  match sensorOf sensor, edgeOf edge with
  | some n, some e =>
    let bothHome := n = .home ∧ e = .both
    let e' : EdgeSelect := if bothHome then .rising else e
    let c := s.clock.sensors[sensorIndex n]
    ({ s with clock := { s.clock with
        sensors := s.clock.sensors.set (sensorIndex n) { c with edge := e', debounce := min debounce.toNat 10 } } },
      .taken (decide bothHome || 10 < debounce.toNat) 0)
  | _, _ => refuse .refusedRange 0 s

/-- SET_SENSOR (R6). -/
def execSetSensor (p : PortId) (sensor edge debounce : Byte) (s : State) : Answer :=
  .next (s.configWrite p Code.setSensor 0 (State.setSensor sensor edge debounce))

/-! ### SET CAM WINDOW (R134) and FORCE CAM (R144) -/

/-- Change one cam channel. -/
def State.modifyCam (c : Fin 8) (f : CamChannel → CamChannel) (s : State) : State :=
  { s with cams := s.cams.set c (f s.cams[c]) }

/-- R134: SET CAM WINDOW in SETUP. -/
def State.setCamWindow (channel field : Byte) (v : Int) (s : State) : State × Reply :=
  let n := channel.toNat
  let e := s.clock.geometry.pitchCounts
  match channelOf channel with
  | none => refuse .refusedRange n s
  | some c =>
    match field.toNat with
    | 0 =>
      if isGlueChannel c then refuse .refusedRange n s
      else (s.modifyCam c fun x => { x with start := bring 0 e v }, .taken (outside 0 e v) n)
    | 1 =>
      if isGlueChannel c then refuse .refusedRange n s
      else (s.modifyCam c fun x => { x with length := bring 0 e v }, .taken (outside 0 e v) n)
    | 2 =>
      match yesNo v with
      | some low => (s.modifyCam c fun x => { x with activeLow := low }, .ok n)
      | none => refuse .refusedRange n s
    | _ => refuse .refusedRange n s

/-- SET_CAM_WINDOW (R134). -/
def execSetCamWindow (p : PortId) (channel field : Byte) (value : Word16) (s : State) : Answer :=
  .next (s.configWrite p Code.setCamWindow channel.toNat (State.setCamWindow channel field value.toInt))

/-- R144: FORCE CAM in SETUP. -/
def State.forceCam (channel onOff : Byte) (s : State) : State × Reply :=
  match channelOf channel, yesNo onOff.toNat with
  | some c, some on => (s.modifyCam c fun x => { x with forced := on }, .ok channel.toNat)
  | _, _ => refuse .refusedRange channel.toNat s

/-- FORCE_CAM (R144). -/
def execForceCam (p : PortId) (channel onOff : Byte) (s : State) : Answer :=
  .next (s.configWrite p Code.forceCam 0 (State.forceCam channel onOff))

/-! ### SET JOB CLASS (R55) and SET GAUGE CAL (R57) -/

/-- R54: the range of each numeric field of a job class, by its selector. -/
def jobClassRange : (field : Nat) → Option (Nat × Nat)
  | 0 => some (0, 4000)
  | 1 => some (5000, 12000)
  | 2 => some (0, 1500)
  | 3 => some (0, 800)
  | 4 => some (0, 20000)
  | 5 => some (0, 40000)
  | 7 => some (5000, 300000)
  | 8 => some (0, 10000)
  | _ => none

/-- R54 and R203: write one numeric field of a job class. -/
def JobClass.write (field v : Nat) (c : JobClass) : JobClass :=
  match field with
  | 0 => { c with millDepth := v }
  | 1 => { c with hingeOffset := v }
  | 2 => { c with glueAllow := v }
  | 3 => { c with nipSqueeze := v }
  | 4 => { c with spineMargin := v }
  | 5 => { c with sideMargin := v }
  | 7 => { c with coolBase := v }
  | 8 => { c with coolPerMm := v }
  | _ => c

/-- Change one job class. -/
def State.modifyClass (n : Fin 8) (f : JobClass → JobClass) (s : State) : State :=
  { s with setpoints := { s.setpoints with
      classes := s.setpoints.classes.set n (f s.setpoints.classes[n]) } }

/-- R55: SET JOB CLASS in SETUP. -/
def State.setJobClass (cls field : Byte) (v : Int) (s : State) : State × Reply :=
  let n := cls.toNat
  match channelOf cls with
  | none => refuse .refusedRange n s
  | some c =>
    if field.toNat = 6 then
      match yesNo v with
      | some used => (s.modifyClass c fun x => { x with sideUsed := used }, .ok n)
      | none => refuse .refusedRange n s
    else match jobClassRange field.toNat with
      | some (lo, hi) =>
        (s.modifyClass c (JobClass.write field.toNat (bring lo hi v)), .taken (outside lo hi v) n)
      | none => refuse .refusedRange n s

/-- SET_JOB_CLASS (R55). -/
def execSetJobClass (p : PortId) (cls field : Byte) (value : Word32) (s : State) : Answer :=
  .next (s.configWrite p Code.setJobClass cls.toNat (State.setJobClass cls field value.toInt))

/-- Change the gauge calibration. -/
def State.modifyGauge (f : GaugeCal → GaugeCal) (s : State) : State :=
  { s with setpoints := { s.setpoints with gauge := f s.setpoints.gauge } }

/-- R57: SET GAUGE CAL in SETUP. -/
def State.setGaugeCal (field : Byte) (v : Int) (s : State) : State × Reply :=
  match field.toNat with
  | 0 =>
    if v = 0 then (s.modifyGauge fun g => { g with sign := .add }, .ok 0)
    else if v = 1 then (s.modifyGauge fun g => { g with sign := .subtract }, .ok 0)
    else refuse .refusedRange 0 s
  | 1 => (s.modifyGauge fun g => { g with shift := bring 0 7 v }, .taken (outside 0 7 v) 0)
  | 2 => (s.modifyGauge fun g => { g with offset := bringInt (-2000) 2000 v },
      .taken (decide (v < -2000 ∨ 2000 < v)) 0)
  | 3 => (s.modifyGauge fun g => { g with spreadLimit := bring 0 5000 v }, .taken (outside 0 5000 v) 0)
  | _ => refuse .refusedRange 0 s

/-- SET_GAUGE_CAL (R57). -/
def execSetGaugeCal (p : PortId) (field : Byte) (value : Word32) (s : State) : Answer :=
  .next (s.configWrite p Code.setGaugeCal 0 (State.setGaugeCal field value.toInt))

/-! ### SET GLUE (R115) -/

/-- R115: the SIDE pot's enable. Disabling puts the pot in UNKNOWN, its timers stopped, with GLUE raised if its state
changed; enabling a disabled pot leaves it in UNKNOWN. -/
def State.enableSide (on : Bool) (s : State) : State :=
  if on then s.modifyPot .side fun q => { q with enabled := true }
  else (s.changePot .side .unknown).modifyPot .side fun q =>
    { q with enabled := false, settle := none, heatUp := none, stale := none }

/-- R115: SET GLUE in SETUP. -/
def State.setGlue (pot field : Byte) (v : Int) (s : State) : State × Reply :=
  let n := pot.toNat
  match potOf pot with
  | none => refuse .refusedRange n s
  | some id =>
    match field.toNat with
    | 0 => (s.modifyPot id fun q => { q with low := bring 1000 2300 v }, .taken (outside 1000 2300 v) n)
    | 1 => (s.modifyPot id fun q => { q with high := bring 1000 2300 v }, .taken (outside 1000 2300 v) n)
    | 2 => (s.modifyPot id fun q => { q with hysteresis := bring 0 100 v }, .taken (outside 0 100 v) n)
    | 3 => (s.modifyPot id fun q => { q with offset := bringInt (-200) 200 v },
        .taken (decide (v < -200 ∨ 200 < v)) n)
    | 4 => (s.modifyPot id fun q => { q with shift := bring 0 4 v }, .taken (outside 0 4 v) n)
    | 5 =>
      match id, yesNo v with
      | .side, some on => (s.enableSide on, .ok n)
      | .side, none => refuse .refusedRange n s
      | .spine, _ => refuse .refusedRange n s
    | _ => refuse .refusedRange n s

/-- SET_GLUE (R115). -/
def execSetGlue (p : PortId) (pot field : Byte) (value : Word16) (s : State) : Answer :=
  .next (s.configWrite p Code.setGlue pot.toNat (State.setGlue pot field value.toInt))

/-! ### SET TIMERS (R11, R36, R116, R161) and SET LIFT LIMITS (R161) -/

/-- R11, R36, R116, R161 and R203: the range of each duration, by its selector. -/
def timerRange : (field : Nat) → Option (Nat × Nat)
  | 0 => some (50, 5000)
  | 1 => some (50, 2000)
  | 2 => some (0, 60000)
  | 3 => some (60, 3600)
  | 4 => some (500, 10000)
  | 5 => some (500, 15000)
  | 6 => some (0, 10000)
  | 7 => some (1000, 120000)
  | _ => none

/-- R203: write one duration. -/
def Timers.write (field v : Nat) (t : Timers) : Timers :=
  match field with
  | 0 => { t with sealIdle := v }
  | 1 => { t with standstill := v }
  | 2 => { t with glueSettle := v }
  | 3 => { t with heatUp := v }
  | 4 => { t with stale := v }
  | 5 => { t with openLimit := v }
  | 6 => { t with liftWindow := v }
  | 7 => { t with trimTimeout := v }
  | _ => t

/-- SET TIMERS in SETUP: the new duration applies from the next start of its timer. -/
def State.setTimers (field : Byte) (v : Int) (s : State) : State × Reply :=
  match timerRange field.toNat with
  | some (lo, hi) => ({ s with timers := s.timers.write field.toNat (bring lo hi v) }, .taken (outside lo hi v) 0)
  | none => refuse .refusedRange 0 s

/-- SET_TIMERS (R116, R195). -/
def execSetTimers (p : PortId) (field : Byte) (value : Word32) (s : State) : Answer :=
  .next (s.configWrite p Code.setTimers 0 (State.setTimers field value.toInt))

/-- R161: write the lift limits. -/
def State.modifyLimits (f : LiftLimits → LiftLimits) (s : State) : State :=
  { s with lifting := { s.lifting with limits := f s.lifting.limits } }

/-- R161: SET LIFT LIMITS in SETUP, with the lift list empty. -/
def State.setLiftLimits (field : Byte) (v : Int) (s : State) : State × Reply :=
  if !s.lifting.lifts.isEmpty then refuse .refusedMode 0 s
  else match field.toNat with
    | 0 => (s.modifyLimits fun l => { l with maxCount := bring 1 16 v }, .taken (outside 1 16 v) 0)
    | 1 => (s.modifyLimits fun l => { l with maxHeight := bring 10000 150000 v }, .taken (outside 10000 150000 v) 0)
    | 2 => (s.modifyLimits fun l => { l with tolerance := bring 0 2000 v }, .taken (outside 0 2000 v) 0)
    | _ => refuse .refusedRange 0 s

/-- SET_LIFT_LIMITS (R161). -/
def execSetLiftLimits (p : PortId) (field : Byte) (value : Word32) (s : State) : Answer :=
  .next (s.configWrite p Code.setLiftLimits 0 (State.setLiftLimits field value.toInt))

end Sys2Proof.Machine
end

