-- ==== Sys2Proof/Machine/Reads.lean ====
section
/-!
DEFINITION. The reads (R192): what each answers, byte for byte (R202 to R207). A read snapshots its whole answer at its
port and changes nothing else.
-/

namespace Sys2Proof.Machine

/-! ### Codes (R203) -/

def Role.code : Role → Nat
  | .gather => 0
  | .binder => 1
  | .cover => 2
  | .trim => 3
  | .observer => 4

def ModeName.code : ModeName → Nat
  | .setup => 0
  | .homing => 1
  | .run => 2
  | .hold => 3
  | .runout => 4
  | .halted => 5

/-- R26 and R203: the hold kind, none outside HOLD. -/
def LineMode.holdKindCode : LineMode → Nat
  | .hold .standstill _ => 1
  | .hold .commanded _ => 2
  | .setup | .homing | .run | .runout | .halted => 0

def HaltCause.code : HaltCause → Nat
  | .reverse => 1
  | .homeMismatch => 2
  | .homeMissing => 3
  | .jamA => 4
  | .jamB => 5
  | .supply => 6

/-- R26 and R203: the return mode, 0xFF outside HOLD. -/
def LineMode.returnCode : LineMode → Nat
  | .hold _ .run => 2
  | .hold _ .runout => 4
  | .setup | .homing | .run | .runout | .halted => 0xFF

def Station.code (st : Station) : Nat := st.index + 1

def BookState.code : BookState → Nat
  | .announced => 1
  | .sealed => 2
  | .inClamp => 3
  | .cooling => 4
  | .ready => 5
  | .inLift => 6
  | .cutting => 7

def PotState.code : PotState → Nat
  | .unknown => 0
  | .cold => 1
  | .settling => 2
  | .ready => 3
  | .hot => 4
  | .fault => 5

def LiftState.code : LiftState → Nat
  | .opened => 1
  | .closed => 2
  | .dispatched => 3

def EdgeSelect.code : EdgeSelect → Nat
  | .rising => 0
  | .falling => 1
  | .both => 2

def AttnMode.code : AttnMode → Nat
  | .level => 0
  | .pulse => 1

def Result.code : Result → Nat
  | .ok => 0x00
  | .adjusted => 0x01
  | .refusedRole => 0x10
  | .refusedMode => 0x11
  | .refusedRange => 0x12
  | .refusedFull => 0x13
  | .refusedUnknown => 0x14
  | .refusedBusy => 0x15
  | .refusedOrder => 0x16
  | .tooLate => 0x20
  | .notApplied => 0x21
  | .duplicate => 0x22
  | .frameError => 0x30

/-- A flag as a number. -/
def flag (b : Bool) : Nat := if b then 1 else 0

/-- A flags byte, bit 0 first. -/
def flagBits (bits : List Bool) : Nat := bits.foldr (fun b acc => 2 * acc + flag b) 0

/-- The code of an optional item, 0 when absent. -/
def codeOr (o : Option Nat) : Nat := o.getD 0

/-! ### The book record (R204) -/

/-- A list of numbers brought to a fixed count of places, unused places 0, each of `width` bytes. -/
def places (count width : Nat) (xs : List Nat) : List Byte :=
  ((xs ++ List.replicate count 0).take count).flatMap (bytesOf width)

/-- R204: the job fields, bytes 6 to 25. -/
def jobBytes : Option Job → List Byte
  | none => List.replicate 20 0
  | some j =>
    bytesOf 4 j.jobKey.toNat ++ bytesOf 1 j.jobClass ++ bytesOf 3 j.rawHeight ++ bytesOf 3 j.height
      ++ bytesOf 3 j.rawWidth ++ bytesOf 3 j.width ++ bytesOf 3 j.coverWidth

/-- R204: the set-point record, bytes 72 to 116. -/
def setPointBytes : Option SetPoints → List Byte
  | none => List.replicate 45 0
  | some r =>
    bytesOf 3 r.caliper ++ bytesOf 3 r.spine ++ bytesOf 2 r.millDepth
      ++ bytesOf 3 r.headTrim ++ bytesOf 3 r.footTrim ++ bytesOf 3 r.foreTrim
      ++ bytesOf 3 r.outer1 ++ bytesOf 3 r.inner1 ++ bytesOf 3 r.inner2 ++ bytesOf 3 r.outer2
      ++ bytesOf 3 r.nipGap
      ++ bytesOf 2 r.spineWindow.start ++ bytesOf 2 r.spineWindow.length
      ++ bytesOf 2 ((r.sideWindow.map GlueWindow.start).getD 0)
      ++ bytesOf 2 ((r.sideWindow.map GlueWindow.length).getD 0)
      ++ bytesOf 2 r.windowE ++ bytesOf 3 r.coolingTime

/-- R204: the 117 bytes of READ BOOK for a live book. -/
def bookBytes (now : Nat) (b : Book) : List Byte :=
  bytesOf 2 b.serial ++ bytesOf 1 b.state.code
    ++ bytesOf 1 (flagBits [b.job.isSome, b.setPoints.isSome, b.suspect, b.coverApplied, b.observedCover.isSome,
        b.clamp.isSome, (b.setPoints.bind SetPoints.sideWindow).isSome, b.coolingDeadline.isSome])
    ++ bytesOf 1 (codeOr (b.cause.map RejectCause.code))
    ++ bytesOf 1 (flagBits [b.warnings.nipFloor, b.warnings.glueClipped, b.warnings.sideClipped,
        b.warnings.coolCapped])
    ++ jobBytes b.job ++ bytesOf 4 b.expectedCover.toNat
    ++ bytesOf 1 b.samples.length ++ places 8 3 b.samples
    ++ bytesOf 1 (codeOr b.clamp) ++ bytesOf 1 (codeOr (b.progress.map Station.code))
    ++ bytesOf 4 (codeOr (b.admittedAt.map BitVec.toNat)) ++ bytesOf 4 (codeOr (b.observedCover.map BitVec.toNat))
    ++ bytesOf 1 (flag b.openTime.isSome) ++ bytesOf 2 (codeOr (b.openTime.map fun t => now - t.started))
    ++ bytesOf 3 (codeOr (b.coolingDeadline.map fun due => due - now))
    ++ bytesOf 1 (codeOr b.liftNumber) ++ setPointBytes b.setPoints

/-- R53 and R204: READ BOOK; a serial of no live book answers 117 bytes of 0. -/
def State.bookAnswer (serial : Nat) (s : State) : List Byte :=
  ((s.findBook serial).map (bookBytes s.now)).getD (List.replicate 117 0)

/-! ### The status (R205) -/

/-- R123 and R205: a pot's four bytes. -/
def potStatusBytes (p : Pot) : List Byte :=
  bytesOf 1 p.state.code ++ bytesOf 2 p.filtered ++ bytesOf 1 (flagBits [p.belowLow, p.aboveHigh, p.enabled])

/-- R205: the 46 bytes of READ STATUS. -/
def State.statusAnswer (s : State) : List Byte :=
  bytesOf 1 s.clock.mode.name.code ++ bytesOf 1 s.clock.mode.holdKindCode ++ bytesOf 1 s.clock.mode.returnCode
    ++ bytesOf 1 (codeOr (s.stoppage.haltCause.map HaltCause.code)) ++ bytesOf 1 (flag s.stoppage.furtherCause)
    ++ bytesOf 1 s.stoppage.resetCause.code
    ++ potStatusBytes s.glue.spine ++ potStatusBytes s.glue.side ++ bytesOf 1 (flag s.glue.ready)
    ++ bytesOf 1 s.occupancy ++ bytesOf 1 s.clock.geometry.capacity
    ++ bytesOf 1 s.books.announceQ.length ++ bytesOf 1 s.delivery.length ++ bytesOf 1 s.lifting.lifts.length
    ++ bytesOf 1 s.books.rejects.length ++ bytesOf 1 (flag s.books.overrun)
    ++ bytesOf 4 s.books.admitted.toNat ++ bytesOf 4 s.books.done.toNat
    ++ bytesOf 4 s.books.rejected.toNat ++ bytesOf 4 s.books.withdrawn.toNat
    ++ bytesOf 4 s.clock.pitchCounter.toNat
    ++ bytesOf 1 s.clock.clampIndex ++ bytesOf 2 s.clock.phase ++ bytesOf 1 s.suspectCount

/-! ### Lifts (R168, R176, R206) -/

/-- R176: the time still to run on a lift's timer. -/
def Lift.remaining (now : Nat) (l : Lift) : Nat :=
  match l.state with
  | .opened => codeOr (l.windowTimer.map fun due => due - now)
  | .dispatched => codeOr (l.trimTimer.map fun due => due - now)
  | .closed => 0

/-- R206: one place of READ LIFTS. -/
def liftBytes (now : Nat) (l : Lift) : List Byte :=
  bytesOf 1 l.number ++ bytesOf 1 l.state.code ++ bytesOf 1 l.books.length ++ bytesOf 1 (flag l.overdue)
    ++ bytesOf 3 l.height ++ bytesOf 3 (l.remaining now) ++ places 16 2 l.books

/-- R176 and R206: the 168 bytes of READ LIFTS; a place past the end of the list is 42 bytes of 0. -/
def State.liftsAnswer (s : State) : List Byte :=
  ((s.lifting.lifts.map (liftBytes s.now) ++ List.replicate 4 (List.replicate 42 0)).take 4).flatten

/-- R168 and R206: the 52 bytes of NEXT LIFT. -/
def State.nextLiftAnswer (s : State) : List Byte :=
  match s.lifting.oldestClosed with
  | none => List.replicate 52 0
  | some l =>
    let r := l.books.head?.bind s.findBook
    let job := r.bind Book.job
    let sp := r.bind Book.setPoints
    bytesOf 1 l.number ++ bytesOf 1 l.books.length ++ places 16 2 l.books
      ++ bytesOf 3 (codeOr (job.map Job.height)) ++ bytesOf 3 (codeOr (job.map Job.width))
      ++ bytesOf 3 (codeOr (sp.map SetPoints.headTrim)) ++ bytesOf 3 (codeOr (sp.map SetPoints.footTrim))
      ++ bytesOf 3 (codeOr (sp.map SetPoints.foreTrim)) ++ bytesOf 3 l.height

/-! ### Clamps, queues, covers, rejects (R49, R83, R105, R106, R157, R207) -/

/-- R83 and R207: one clamp's entry. -/
def State.clampBytes (s : State) (clamp : Nat) : List Byte :=
  let b := (s.carousel.bookIn clamp).bind s.findBook
  bytesOf 2 (codeOr (s.carousel.bookIn clamp)) ++ bytesOf 1 (flagBits [s.carousel.locked clamp, b.any Book.suspect])
    ++ bytesOf 1 (codeOr ((b.bind Book.progress).map Station.code))

/-- R83: the N entries of READ CLAMP MAP, from the start clamp (modulo N) upward and round. -/
def State.clampMapAnswer (start : Nat) (s : State) : List Byte :=
  let n := s.clock.geometry.clampCount
  (List.range n).flatMap fun i => s.clampBytes ((start % n + i) % n)

/-- R53 and R207: a READ QUEUE entry of the announce queue. -/
def State.announceEntry (s : State) (serial : Nat) : List Byte :=
  let b := s.findBook serial
  bytesOf 2 serial ++ bytesOf 1 (codeOr (b.map fun b => b.state.code))
    ++ bytesOf 1 (codeOr (b.map fun b => b.samples.length))

/-- R157 and R207: a READ QUEUE entry of the delivery queue; a READY book has 0 remaining. -/
def State.deliveryEntry (s : State) (serial : Nat) : List Byte :=
  let b := s.findBook serial
  let remaining := b.bind fun b => if b.state = .cooling then b.coolingDeadline.map fun due => due - s.now else none
  bytesOf 2 serial ++ bytesOf 1 (codeOr (b.map fun b => b.state.code)) ++ bytesOf 3 (codeOr remaining)

/-- R106 and R207: a READ QUEUE entry of the due list. -/
def DueEntry.bytes (e : DueEntry) : List Byte :=
  bytesOf 2 e.serial ++ bytesOf 1 (flag e.want) ++ bytesOf 1 (flag e.received)

/-- R53, R106, R157 and R203: READ QUEUE from a start index; entries past the end, and the entries of a queue byte
that names no queue, are bytes of 0. -/
def State.queueAnswer (queue start : Nat) (s : State) : List Byte :=
  match queue with
  | 0 => (s.books.announceQ.drop start).flatMap s.announceEntry
  | 1 => (s.delivery.drop start).flatMap s.deliveryEntry
  | 2 => (s.due.drop start).flatMap DueEntry.bytes
  | _ => []

/-- R105: the oldest due list entry without a report. -/
def State.nextDueEntry (s : State) : Option DueEntry := s.due.find? fun e => !e.received

/-- R105 and R207: the 22 bytes of NEXT DUE. -/
def State.nextDueAnswer (s : State) : List Byte :=
  match s.nextDueEntry with
  | none => List.replicate 22 0
  | some e =>
    let b := s.findBook e.serial
    let sp := b.bind Book.setPoints
    bytesOf 2 e.serial ++ bytesOf 4 (codeOr (b.map fun b => b.expectedCover.toNat)) ++ bytesOf 1 (flag e.want)
      ++ bytesOf 3 (codeOr ((b.bind Book.job).map Job.coverWidth))
      ++ bytesOf 3 (codeOr (sp.map SetPoints.outer1)) ++ bytesOf 3 (codeOr (sp.map SetPoints.inner1))
      ++ bytesOf 3 (codeOr (sp.map SetPoints.inner2)) ++ bytesOf 3 (codeOr (sp.map SetPoints.outer2))

/-- R49 and R207: READ REJECTS. -/
def State.rejectsAnswer (start : Nat) (s : State) : List Byte :=
  bytesOf 1 s.books.rejects.length ++ bytesOf 1 (flag s.books.overrun)
    ++ (s.books.rejects.drop start).flatMap RejectEntry.bytes

/-! ### The port itself (R196, R200, R207) -/

/-- R207: READ IDENT. -/
def State.identAnswer (p : PortId) (s : State) : List Byte :=
  bytesOf 2 Config.deviceCode ++ bytesOf 1 Config.revision ++ bytesOf 1 p.val ++ bytesOf 1 s.ports[p].role.code

/-- R196 and R207: READ RESULT. -/
def Port.resultAnswer (q : Port) : List Byte :=
  bytesOf 1 q.result.code ++ bytesOf 2 q.subject.toNat ++ [q.lastCode]

/-- R200 and R203: the code of the highest-priority cause set and enabled (bit number plus 1), or 0. -/
def Port.attentionCause (q : Port) : Nat :=
  codeOr (((List.range 9).find? fun i => (q.latches &&& q.enables).getLsbD i).map (· + 1))

/-- R200 and R207: READ ATTENTION. -/
def Port.attentionAnswer (q : Port) : List Byte :=
  bytesOf 1 q.attentionCause ++ bytesOf 2 q.latches.toNat ++ bytesOf 2 q.enables.toNat ++ bytesOf 1 q.attnMode.code

/-! ### The configuration (R58, R145, R207) -/

def Geometry.bytes (g : Geometry) : List Byte :=
  bytesOf 1 g.clampCount ++ bytesOf 2 g.pitchCounts ++ bytesOf 3 g.pitchLength ++ bytesOf 2 g.homePhase
    ++ bytesOf 2 g.homeTolerance ++ bytesOf 2 g.reverseTolerance ++ bytesOf 1 g.capacity
    ++ bytesOf 1 (flag (g.supplyAction == .reset))

def StationPlace.bytes (p : StationPlace) : List Byte := bytesOf 1 p.offset ++ bytesOf 2 p.phase

def Conditioner.bytes (c : Conditioner) : List Byte := bytesOf 1 c.edge.code ++ bytesOf 1 c.debounce

/-- R145 and R207: a channel; the start and length of the glue channels read 0. -/
def channelBytes (s : State) (c : Fin 8) : List Byte :=
  (if isGlueChannel c then List.replicate 4 0 else bytesOf 2 s.cams[c].start ++ bytesOf 2 s.cams[c].length)
    ++ bytesOf 1 (flag s.cams[c].activeLow) ++ bytesOf 1 (flag s.cams[c].forced)

def JobClass.bytes (c : JobClass) : List Byte :=
  bytesOf 2 c.millDepth ++ bytesOf 2 c.hingeOffset ++ bytesOf 2 c.glueAllow ++ bytesOf 2 c.nipSqueeze
    ++ bytesOf 2 c.spineMargin ++ bytesOf 2 c.sideMargin ++ bytesOf 1 (flag c.sideUsed)
    ++ bytesOf 3 c.coolBase ++ bytesOf 2 c.coolPerMm

def GaugeCal.bytes (g : GaugeCal) : List Byte :=
  bytesOf 1 (flag (g.sign == .subtract)) ++ bytesOf 1 g.shift ++ bytesOfInt 2 g.offset ++ bytesOf 2 g.spreadLimit

def Pot.configBytes (p : Pot) : List Byte :=
  bytesOf 2 p.low ++ bytesOf 2 p.high ++ bytesOf 1 p.hysteresis ++ bytesOfInt 2 p.offset ++ bytesOf 1 p.shift
    ++ bytesOf 1 (flag p.enabled)

def Timers.bytes (t : Timers) : List Byte :=
  bytesOf 2 t.sealIdle ++ bytesOf 2 t.standstill ++ bytesOf 2 t.glueSettle ++ bytesOf 2 t.heatUp ++ bytesOf 2 t.stale
    ++ bytesOf 2 t.openLimit ++ bytesOf 2 t.liftWindow ++ bytesOf 3 t.trimTimeout

def LiftLimits.bytes (l : LiftLimits) : List Byte :=
  bytesOf 1 l.maxCount ++ bytesOf 3 l.maxHeight ++ bytesOf 2 l.tolerance

/-- R58 and R207: the 282 bytes of READ CONFIG. -/
def State.configAnswer (s : State) : List Byte :=
  s.clock.geometry.bytes ++ s.clock.stations.toList.flatMap StationPlace.bytes
    ++ s.clock.sensors.toList.flatMap Conditioner.bytes ++ (List.finRange 8).flatMap (channelBytes s)
    ++ s.setpoints.classes.toList.flatMap JobClass.bytes ++ s.setpoints.gauge.bytes
    ++ s.glue.spine.configBytes ++ s.glue.side.configBytes ++ s.timers.bytes ++ s.lifting.limits.bytes

/-! ### Taking a read (R192) -/

/-- R190 and R192: a read is taken when its last argument byte completes: the port is ANSWERING with the snapshot of
the whole answer; its result and subject stay. -/
def Port.answering (frame : List Byte) (answer : Snapshot) (q : Port) : Port :=
  { q with frame := .answering, collected := frame, snapshot := some answer, taking := none }

/-- A read of the part: nothing but the port's frame changes; none is taken while the part is held in reset (R185). -/
def State.read (p : PortId) (frame : List Byte) (answer : State → List Byte) (s : State) : State :=
  s.whenRunning fun s => s.modifyPort p (Port.answering frame { bytes := answer s, cyclic := false })

/-- R190 and R192: the byte the port drives at a place of its answer: past the end 0x00, and READ CLAMP MAP begins
again (R83). -/
def Snapshot.byteAt (a : Snapshot) (i : Nat) : Byte :=
  a.bytes.getD (if a.cyclic then i % a.bytes.length else i) 0

/-- R190: the byte on SDO at a place of the answer: the snapshot's in ANSWERING, 0x00 otherwise. -/
def Port.sdoByte (q : Port) (i : Nat) : Byte :=
  match q.frame, q.snapshot with
  | .answering, some a => a.byteAt i
  | _, _ => 0

/-- READ_IDENT (R207). -/
def execReadIdent (p : PortId) (s : State) : Answer :=
  .next (s.read p [Code.readIdent] (State.identAnswer p))

/-- READ_STATUS (R205). -/
def execReadStatus (p : PortId) (s : State) : Answer :=
  .next (s.read p [Code.readStatus] State.statusAnswer)

/-- READ_RESULT (R196). -/
def execReadResult (p : PortId) (s : State) : Answer :=
  .next (s.read p [Code.readResult] fun s => s.ports[p].resultAnswer)

/-- READ_ATTENTION (R200). -/
def execReadAttention (p : PortId) (s : State) : Answer :=
  .next (s.read p [Code.readAttention] fun s => s.ports[p].attentionAnswer)

/-- READ_BOOK (R53, R204). -/
def execReadBook (p : PortId) (serial : Word16) (s : State) : Answer :=
  .next (s.read p (Code.readBook :: bytesOf 2 serial.toNat) (State.bookAnswer serial.toNat))

/-- READ_CLAMP_MAP (R83): the answer begins again after N entries. -/
def execReadClampMap (p : PortId) (start : Byte) (s : State) : Answer :=
  .next (s.whenRunning fun s =>
    s.modifyPort p (Port.answering [Code.readClampMap, start]
      { bytes := s.clampMapAnswer start.toNat, cyclic := true }))

/-- READ_QUEUE (R53, R106, R157). -/
def execReadQueue (p : PortId) (queue start : Byte) (s : State) : Answer :=
  .next (s.read p [Code.readQueue, queue, start] (State.queueAnswer queue.toNat start.toNat))

/-- READ_LIFTS (R176). -/
def execReadLifts (p : PortId) (s : State) : Answer :=
  .next (s.read p [Code.readLifts] State.liftsAnswer)

/-- READ_CONFIG (R58). -/
def execReadConfig (p : PortId) (s : State) : Answer :=
  .next (s.read p [Code.readConfig] State.configAnswer)

/-- NEXT_DUE (R105). -/
def execNextDue (p : PortId) (s : State) : Answer :=
  .next (s.read p [Code.nextDue] State.nextDueAnswer)

/-- NEXT_LIFT (R168). -/
def execNextLift (p : PortId) (s : State) : Answer :=
  .next (s.read p [Code.nextLift] State.nextLiftAnswer)

/-- READ_REJECTS (R49). -/
def execReadRejects (p : PortId) (start : Byte) (s : State) : Answer :=
  .next (s.read p [Code.readRejects, start] (State.rejectsAnswer start.toNat))

end Sys2Proof.Machine
end

