-- ==== Sys2Proof/Machine/Dispatch.lean ====
section
/-!
DEFINITION. The meaning of each command: one arm per constructor of `Instr`, each one call.
-/

namespace Sys2Proof.Machine

/-- The effect of a command or event on everything but the queue of waiting commands. -/
def exec (i : Instr) (s : State) : Host.Outcome State Fault Refusal :=
  match i with
  | .readIdent port => Sys2Proof.Machine.execReadIdent port s
  | .readStatus port => Sys2Proof.Machine.execReadStatus port s
  | .readResult port => Sys2Proof.Machine.execReadResult port s
  | .readAttention port => Sys2Proof.Machine.execReadAttention port s
  | .readBook port serial => Sys2Proof.Machine.execReadBook port serial s
  | .readClampMap port start => Sys2Proof.Machine.execReadClampMap port start s
  | .readQueue port queue start => Sys2Proof.Machine.execReadQueue port queue start s
  | .readLifts port => Sys2Proof.Machine.execReadLifts port s
  | .readConfig port => Sys2Proof.Machine.execReadConfig port s
  | .nextDue port => Sys2Proof.Machine.execNextDue port s
  | .nextLift port => Sys2Proof.Machine.execNextLift port s
  | .readRejects port start => Sys2Proof.Machine.execReadRejects port start s
  | .takeReject port stage => Sys2Proof.Machine.execTakeReject port stage s
  | .setAttention port enables attnMode => Sys2Proof.Machine.execSetAttention port enables attnMode s
  | .clearAttention port mask => Sys2Proof.Machine.execClearAttention port mask s
  | .announce port jobKey jobClass hr h wr w cw cover => Sys2Proof.Machine.execAnnounce port jobKey jobClass hr h wr w cw cover s
  | .caliper port samples => Sys2Proof.Machine.execCaliper port samples s
  | .seal port => Sys2Proof.Machine.execSeal port s
  | .withdraw port serial => Sys2Proof.Machine.execWithdraw port serial s
  | .rejectBook port serial => Sys2Proof.Machine.execRejectBook port serial s
  | .start port => Sys2Proof.Machine.execStart port s
  | .hold port => Sys2Proof.Machine.execHold port s
  | .resume port => Sys2Proof.Machine.execResume port s
  | .runout port => Sys2Proof.Machine.execRunout port s
  | .stop port => Sys2Proof.Machine.execStop port s
  | .clearHalt port => Sys2Proof.Machine.execClearHalt port s
  | .resolveClampKeep port clamp decision => Sys2Proof.Machine.execResolveClampKeep port clamp decision s
  | .resolveClampRemove port clamp => Sys2Proof.Machine.execResolveClampRemove port clamp s
  | .glueReading port pot raw => Sys2Proof.Machine.execGlueReading port pot raw s
  | .clearGlueFault port pot => Sys2Proof.Machine.execClearGlueFault port pot s
  | .resetDevice port => Sys2Proof.Machine.execResetDevice port s
  | .coverSeen port serial coverId => Sys2Proof.Machine.execCoverSeen port serial coverId s
  | .takeLift port lift => Sys2Proof.Machine.execTakeLift port lift s
  | .cutDone port lift outcome => Sys2Proof.Machine.execCutDone port lift outcome s
  | .closeLift port => Sys2Proof.Machine.execCloseLift port s
  | .lockClamp port clamp => Sys2Proof.Machine.execLockClamp port clamp s
  | .unlockClamp port clamp => Sys2Proof.Machine.execUnlockClamp port clamp s
  | .setGeometry port field value => Sys2Proof.Machine.execSetGeometry port field value s
  | .setStation port station d phase => Sys2Proof.Machine.execSetStation port station d phase s
  | .setSensor port sensor edge debounce => Sys2Proof.Machine.execSetSensor port sensor edge debounce s
  | .setCamWindow port channel field value => Sys2Proof.Machine.execSetCamWindow port channel field value s
  | .setJobClass port cls field value => Sys2Proof.Machine.execSetJobClass port cls field value s
  | .setGaugeCal port field value => Sys2Proof.Machine.execSetGaugeCal port field value s
  | .setGlue port pot field value => Sys2Proof.Machine.execSetGlue port pot field value s
  | .setTimers port field value => Sys2Proof.Machine.execSetTimers port field value s
  | .setLiftLimits port field value => Sys2Proof.Machine.execSetLiftLimits port field value s
  | .forceCam port channel onOff => Sys2Proof.Machine.execForceCam port channel onOff s
  | .frameError port bytes partialByte => Sys2Proof.Machine.execFrameError port bytes partialByte s
  | .frameAbandon port bytes => Sys2Proof.Machine.execFrameAbandon port bytes s
  | .forwardCount => Sys2Proof.Machine.execForwardCount s
  | .reverseCount => Sys2Proof.Machine.execReverseCount s
  | .homingTravelLimit => Sys2Proof.Machine.execHomingTravelLimit s
  | .pitchesSinceHomeLimit => Sys2Proof.Machine.execPitchesSinceHomeLimit s
  | .standstillReturn => Sys2Proof.Machine.execStandstillReturn s
  | .standstillExpiry => Sys2Proof.Machine.execStandstillExpiry s
  | .sensorRawChange sensor level => Sys2Proof.Machine.execSensorRawChange sensor level s
  | .debounceExpiry sensor => Sys2Proof.Machine.execDebounceExpiry sensor s
  | .supplyDipStart => Sys2Proof.Machine.execSupplyDipStart s
  | .supplyReturn => Sys2Proof.Machine.execSupplyReturn s
  | .supplyEvent => Sys2Proof.Machine.execSupplyEvent s
  | .powerOnReset => Sys2Proof.Machine.execPowerOnReset s
  | .pinReset => Sys2Proof.Machine.execPinReset s
  | .resetEnd sample => Sys2Proof.Machine.execResetEnd sample s
  | .sealTimerExpiry => Sys2Proof.Machine.execSealTimerExpiry s
  | .camWindowEnd channel => Sys2Proof.Machine.execCamWindowEnd channel s
  | .settleExpiry pot => Sys2Proof.Machine.execSettleExpiry pot s
  | .heatUpExpiry pot => Sys2Proof.Machine.execHeatUpExpiry pot s
  | .staleExpiry pot => Sys2Proof.Machine.execStaleExpiry pot s
  | .openTimeExpiry serial => Sys2Proof.Machine.execOpenTimeExpiry serial s
  | .coolingExpiry serial => Sys2Proof.Machine.execCoolingExpiry serial s
  | .windowTimerExpiry => Sys2Proof.Machine.execWindowTimerExpiry s
  | .trimTimerExpiry => Sys2Proof.Machine.execTrimTimerExpiry s
  | .attnPulseEnd port => Sys2Proof.Machine.execAttnPulseEnd port s
  | .lampFlashToggle lamp => Sys2Proof.Machine.execLampFlashToggle lamp s

end Sys2Proof.Machine
end

