-- ==== Sys2Proof/Machine/Frames.lean ====
section
/-!
DEFINITION. The lines of the station ports (R190 to R193): how the edges of SCK between two edges of select become a
frame, and the frame a waiting command; what a port drives on SDO.
-/

namespace Sys2Proof.Machine

/-- One port's wire state. -/
def State.setWire (p : PortId) (w : PortWire) (s : State) : State := { s with wires := s.wires.set p w }

/-- A command or event that the part itself finds waits behind those that wait already. -/
def State.post (found : Option Instr) (s : State) : State := { s with pending := s.pending ++ found.toList }

/-- R190: the byte of eight bits, the most significant first. -/
def byteOfBits (bits : List Bool) : Byte := BitVec.ofNat 8 (bits.foldl (fun n b => 2 * n + b.toNat) 0)

/-- R192: what the bytes of a frame name when the last of them completes: a read whose last argument byte this is, and a
TAKE REJECT at its command byte (R50); any other frame is examined at select release (R191). -/
def readTaken (p : PortId) : List Byte → Option Instr
  | [] => none
  | code :: args =>
    match frameShape code with
    | some (.read n) => if args.length = n then decodeCommand p code args else none
    | some .takeReject => if args = [] then some (.takeReject p .commandByte) else none
    | some (.action _) | some .caliper | none => none

/-- R190: a frame begins: the port collects. -/
def Port.beginFrame (q : Port) : Port :=
  { q with frame := .collecting, collected := [], snapshot := none, taking := none }

/-- R190: a byte completes in COLLECTING. An unknown command code puts the port in DISCARDING; a read that is complete
is taken. -/
def State.collectByte (p : PortId) (b : Byte) (s : State) : State :=
  let bytes := s.ports[p].collected ++ [b]
  let known := (frameShape (receivedCode bytes)).isSome
  (s.modifyPort p fun q => { q with
    frame := if known then .collecting else .discarding, collected := bytes }).post (readTaken p bytes)

/-- R193: the time at which a gap of 2 ms that begins now is over. -/
def State.gapEnd (s : State) : Option Nat := some (s.now + Config.frameGap)

/-- R193: an edge of SCK, rising or falling, begins the measurement of the gap anew. -/
def State.edged (p : PortId) (s : State) : PortWire := { s.wires[p] with gap := s.gapEnd, edge := true }

/-- R190: SCK rises on a port whose select is low, and SDI is sampled. Eight bits are a byte; in COLLECTING it is
collected, in ANSWERING and DISCARDING it is not examined. In IDLE select is high and the clock is not taken. -/
def State.clockBit (p : PortId) (sdi : Bool) (s : State) : State :=
  if s.ports[p].frame = .idle then s
  else
    let w := s.edged p
    let bits := w.bits ++ [sdi]
    if bits.length < 8 then s.setWire p { w with bits := bits }
    else if s.ports[p].frame = .collecting then (s.setWire p { w with bits := [] }).collectByte p (byteOfBits bits)
    else s.setWire p { w with bits := [], answered := w.answered + 1 }

/-- R190: SCK falls on a port whose select is low: SDO is driven with the bit that comes next, the most significant of
a byte first: in ANSWERING a bit of the snapshot's answer, in COLLECTING and DISCARDING one of a 0x00 byte. In IDLE the
clock is not taken. -/
def State.driveBit (p : PortId) (s : State) : State :=
  if s.ports[p].frame = .idle then s
  else
    let w := s.edged p
    s.setWire p { w with sdo := (s.ports[p].sdoByte w.answered).getMsbD w.bits.length }

/-- R191: a frame does not end on a byte boundary: bits of a byte have been clocked, or SCK has had an edge and no bit
has come at all (DESIGN CHOICE, unsafe: entry 21), which is not R193's select without a clock edge. -/
def PortWire.endsPartial (w : PortWire) (bytes : List Byte) : Bool := !w.bits.isEmpty || (bytes.isEmpty && w.edge)

/-- R50, R191 to R193: what a frame is when its select rises. In COLLECTING the bytes are its command, a FRAME_ERROR, or
no frame if no clock edge came. In ANSWERING a read has been taken already, and a TAKE REJECT acts on how much of its
entry was clocked out. In DISCARDING an unknown code gives its FRAME_ERROR; an abandoned frame gave it at the gap. -/
def State.released (p : PortId) (s : State) : Option Instr :=
  let q := s.ports[p]
  let w := s.wires[p]
  let partialByte := w.endsPartial q.collected
  match q.frame with
  | .idle => none
  | .collecting => decodeFrame p q.collected partialByte
  | .answering =>
    if q.taking.isNone then none
    else
      let bytes := q.collected ++ List.replicate w.answered 0
      if isFrameError bytes partialByte then some (.frameError p bytes partialByte)
      else some (.takeReject p (.release w.answered))
  | .discarding => if q.collected = [] then none else some (.frameError p q.collected partialByte)

/-- R190: select rises: the port is IDLE, its lines are at rest, and what its frame is waits to be taken. A TAKE REJECT
keeps what it snapshotted until its release is taken. -/
def State.releaseSelect (p : PortId) (s : State) : State :=
  ((s.setWire p PortWire.rest).modifyPort p fun q =>
    { q with frame := .idle, collected := [], snapshot := none }).post (s.released p)

/-- R190: one event on the lines of a port. While the part is held in reset none is taken (R185). -/
def State.takeWire (p : PortId) (e : WireEvent) (s : State) : State :=
  s.whenRunning fun s =>
    match e with
    | .selectFall => (s.setWire p { PortWire.rest with gap := s.gapEnd }).modifyPort p Port.beginFrame
    | .clockRise sdi => s.clockBit p sdi
    | .clockFall => s.driveBit p
    | .selectRise => s.releaseSelect p

/-- R190 and R192: the level of a port's SDO: what the last falling edge of SCK drove, while the port is ANSWERING, and
low otherwise; low while the part is held in reset (R185). An abandoned frame's clock is ignored (R193), so that SDO is
low from the abandonment on and waits for no edge. -/
def State.sdo (s : State) (p : PortId) : Bool :=
  !s.stoppage.held && s.ports[p].frame == .answering && s.wires[p].sdo

end Sys2Proof.Machine
end

