-- ==== Sys2Proof/Machine/Idle.lean ====
section
/-!
DEFINITION. What the part does when no command waits and no line event arrives (entry 1): one millisecond passes, and
the expiries that have come due are posted as events.
-/

namespace Sys2Proof.Machine

/-- An event, if its condition holds. -/
def whenDue (condition : Bool) (event : Instr) : List Instr := if condition then [event] else []

/-- R119 to R121: the expiries of a pot's timers. -/
def Pot.dueEvents (now : Nat) (id : PotId) (p : Pot) : List Instr :=
  whenDue (isDue now p.settle) (.settleExpiry id) ++ whenDue (isDue now p.heatUp) (.heatUpExpiry id)
    ++ whenDue (isDue now p.stale) (.staleExpiry id)

/-- R129 and R149: the expiries of a book's open-time timer and cooling deadline. -/
def Book.dueEvents (now : Nat) (b : Book) : List Instr :=
  whenDue (isDue now (b.openTime.map OpenTimer.due)) (.openTimeExpiry (BitVec.ofNat 16 b.serial))
    ++ whenDue (b.state == .cooling && isDue now b.coolingDeadline) (.coolingExpiry (BitVec.ofNat 16 b.serial))

/-- R178: the supply monitor's event: a dip that has lasted a millisecond has lasted 100 µs (entry 3). -/
def SupplyMonitor.dueEvents : SupplyMonitor → List Instr
  | .dipping false => [.supplyEvent]
  | .dipping true | .clear => []

/-- R193 and R199: the abandonment of a port's frame and the end of its attention pulse. -/
def State.portDueEvents (now : Nat) (s : State) (p : PortId) : List Instr :=
  whenDue (s.ports[p].inFrame && isDue now s.wires[p].gap) (.frameAbandon p s.ports[p].collected)
    ++ whenDue (isDue now s.ports[p].pulse) (.attnPulseEnd p)

/-- The expiries that have come due at the time `now`, in the order of the blocks (the spec gives none). -/
def State.dueEvents (now : Nat) (s : State) : List Instr :=
  [Sensor.block, Sensor.home, Sensor.jamA, Sensor.jamB].flatMap
      (fun n => whenDue (isDue now s.clock.sensors[sensorIndex n].pending) (.debounceExpiry n))
    ++ whenDue (isDue now s.clock.standstillTimer) .standstillExpiry
    ++ whenDue (isDue now s.books.sealTimer) .sealTimerExpiry
    ++ s.glue.spine.dueEvents now .spine ++ s.glue.side.dueEvents now .side
    ++ s.books.live.flatMap (Book.dueEvents now)
    ++ whenDue (s.lifting.lifts.any fun l => isDue now l.windowTimer) .windowTimerExpiry
    ++ whenDue (s.lifting.lifts.any fun l => isDue now l.trimTimer) .trimTimerExpiry
    ++ s.stoppage.supply.dueEvents
    ++ whenDue (isDue now s.stoppage.lampA.toggleAt) (.lampFlashToggle .a)
    ++ whenDue (isDue now s.stoppage.lampB.toggleAt) (.lampFlashToggle .b)
    ++ (List.finRange 4).flatMap (s.portDueEvents now)

/-- One idle millisecond: the time goes on, and the expiries due wait in the queue; held in reset, nothing expires
(R185, R187). -/
def State.idle (s : State) : State :=
  { s with now := s.now + 1, pending := if s.stoppage.held then [] else s.dueEvents (s.now + 1) }

end Sys2Proof.Machine
end

