-- ==== Sys2Proof/Machine/Step.lean ====
section
/-!
DEFINITION. One step of the part: the command at the front of the queue, or the next event on the lines of the ports, or
an idle millisecond.
-/

namespace Sys2Proof.Machine

/-- One step: the command at the front of the queue is taken, with the queue's rest waiting; with no command waiting
the next event on the lines of the ports is taken (entry 5), and with none arriving either the part idles for a
millisecond (entry 1). -/
def step (s : State) : Host.Outcome State Fault Refusal :=
  match s.pending with
  | command :: rest => exec command { s with pending := rest }
  | [] =>
    match s.arriving with
    | (p, e) :: rest => .next (({ s with arriving := rest } : State).takeWire p e)
    | [] => .next s.idle

/-- `s` with the command a word spells put at the front of the queue; unchanged where the word spells none. -/
def State.withFetchWord (s : State) (nbits w : Nat) : State :=
  match decodeTableWord nbits w with
  | some command => { s with pending := command :: s.pending }
  | none => s

end Sys2Proof.Machine
end

