-- ==== Sys2Proof/Safety.lean ====
section
/-!
DEFINITION. What counts as a good state and a good step of the part, in the terms the statements use: who may give
which command (R195), which changes of line mode there are (R19), and the invariants that every step keeps.
-/

namespace Sys2Proof

/-- R202: the code with which an action command's frame begins; 0 for everything else. -/
def Instr.actionCode : Instr → Byte
  | .setAttention _ _ _ => 0x10
  | .clearAttention _ _ => 0x11
  | .announce _ _ _ _ _ _ _ _ _ => 0x20
  | .caliper _ _ => 0x21
  | .seal _ => 0x22
  | .withdraw _ _ => 0x23
  | .rejectBook _ _ => 0x24
  | .start _ => 0x30
  | .hold _ => 0x31
  | .resume _ => 0x32
  | .runout _ => 0x33
  | .stop _ => 0x34
  | .clearHalt _ => 0x35
  | .resolveClampKeep _ _ _ => 0x36
  | .resolveClampRemove _ _ => 0x36
  | .glueReading _ _ _ => 0x37
  | .clearGlueFault _ _ => 0x38
  | .resetDevice _ => 0x3F
  | .coverSeen _ _ _ => 0x40
  | .takeLift _ _ => 0x50
  | .cutDone _ _ _ => 0x51
  | .closeLift _ => 0x52
  | .lockClamp _ _ => 0x60
  | .unlockClamp _ _ => 0x61
  | .setGeometry _ _ _ => 0x70
  | .setStation _ _ _ _ => 0x71
  | .setCamWindow _ _ _ _ => 0x72
  | .setJobClass _ _ _ _ => 0x73
  | .setGaugeCal _ _ _ => 0x74
  | .setGlue _ _ _ _ => 0x75
  | .setTimers _ _ _ => 0x76
  | .setLiftLimits _ _ _ => 0x77
  | .setSensor _ _ _ _ => 0x78
  | .forceCam _ _ _ => 0x79
  | .readIdent _ | .readStatus _ | .readResult _ | .readAttention _ | .readBook _ _ | .readClampMap _ _
  | .readQueue _ _ _ | .readLifts _ | .readConfig _ | .nextDue _ | .nextLift _ | .readRejects _ _
  | .takeReject _ _ | .frameError _ _ _ | .frameAbandon _ _ | .forwardCount | .reverseCount | .homingTravelLimit
  | .pitchesSinceHomeLimit | .standstillReturn | .standstillExpiry | .sensorRawChange _ _ | .debounceExpiry _
  | .supplyDipStart | .supplyReturn | .supplyEvent | .powerOnReset | .pinReset | .resetEnd _ | .sealTimerExpiry
  | .camWindowEnd _ | .settleExpiry _ | .heatUpExpiry _ | .staleExpiry _ | .openTimeExpiry _ | .coolingExpiry _
  | .windowTimerExpiry | .trimTimerExpiry | .attnPulseEnd _ | .lampFlashToggle _ => 0

/-- The port of an action command (R191); none for a read, for TAKE REJECT (R50) and for an event. -/
def Instr.actionPort (i : Instr) : Option PortId := if i.actionCode = 0 then none else portOf i

/-- R195: the configuration writes. -/
def Instr.isConfigWrite (i : Instr) : Bool := decide (0x70 ≤ i.actionCode.toNat ∧ i.actionCode.toNat ≤ 0x79)

open Machine in
/-- R195: is an action command taken from a role? By the codes of R202: 0x20 to 0x23 are GATHER's, 0x30 to 0x3F
BINDER's, 0x40 is COVER's, 0x50 to 0x52 TRIM's; 0x24, 0x60, 0x61 and the configuration writes are taken from every
role but OBSERVER; SET and CLEAR ATTENTION from every role. -/
def Instr.takenFrom (i : Instr) (r : Role) : Bool :=
  match i.actionCode.toNat / 16, i.actionCode.toNat with
  | 2, 0x24 => r != .observer
  | 2, _ => r == .gather
  | 3, _ => r == .binder
  | 4, _ => r == .cover
  | 5, _ => r == .trim
  | 6, _ => r != .observer
  | 7, _ => r != .observer
  | _, _ => true

/-- R195 and R196: the subject of a command's REFUSED_ROLE, and of a configuration write's REFUSED_MODE by line mode:
the class (R55), the channel (R134), the pot (R115) or the clamp (R100) where the rules give the subject of every
refusal, else 0. -/
def Instr.refusalSubject : Instr → Nat
  | .setJobClass _ cls _ _ => cls.toNat
  | .setCamWindow _ channel _ _ => channel.toNat
  | .setGlue _ pot _ _ => pot.toNat
  | .lockClamp _ clamp | .unlockClamp _ clamp => clamp.toNat
  | _ => 0

namespace Machine

/-! ### Line mode (R19) -/

/-- R19 and R26: the changes of line mode there are, with the commands and events within which each comes about. A
reset (RESET_END) is not a change of this table. -/
def modeMove (i : Instr) : (before after : ModeName) → Bool
  | .setup, .homing => (i matches .start _)
  | .homing, .run => (i matches .sensorRawChange .home _) || (i matches .debounceExpiry .home)
  | .run, .hold => (i matches .standstillExpiry) || (i matches .hold _)
  | .runout, .hold => (i matches .standstillExpiry) || (i matches .hold _)
  | .hold, .run => (i matches .resume _) || (i matches .standstillReturn) || (i matches .forwardCount)
  | .hold, .runout => (i matches .resume _) || (i matches .standstillReturn) || (i matches .forwardCount)
  | .hold, .setup =>
    (i matches .resume _) || (i matches .standstillReturn) || (i matches .forwardCount) || (i matches .stop _)
  | .run, .runout => (i matches .runout _)
  | .run, .setup => (i matches .runout _) || (i matches .stop _)
  | .runout, .setup => (i matches .forwardCount) || (i matches .stop _)
  | .homing, .setup => (i matches .stop _)
  | .setup, .halted => (i matches .supplyEvent)
  | .halted, .setup => (i matches .clearHalt _)
  | .homing, .halted => modeHalts i
  | .run, .halted => modeHalts i
  | .hold, .halted => modeHalts i
  | .runout, .halted => modeHalts i
  | _, _ => false
where
  /-- R3, R16, R17, R18, R177, R179: the events that can raise a halt cause. -/
  modeHalts : Instr → Bool
    | .reverseCount | .forwardCount | .homingTravelLimit | .pitchesSinceHomeLimit | .supplyEvent => true
    | .sensorRawChange n _ => n != .block
    | .debounceExpiry n => n != .block
    | _ => false

/-- The line mode, the standstill timer, the halt cause, the cam channels and the presence latch agree with each
other, and so do the reset sources and the hold in reset. -/
structure State.LineModeSound (s : State) : Prop where
  /-- R11: the standstill timer runs exactly while the line mode is RUN or RUNOUT. -/
  standstill : s.clock.standstillTimer.isSome = true ↔ s.clock.mode = .run ∨ s.clock.mode = .runout
  /-- R24 and R25: a halt cause is recorded exactly while the line mode is HALTED. -/
  haltCause : s.stoppage.haltCause.isSome = true ↔ s.clock.mode = .halted
  /-- R24 and R25: the further-cause flag is set only in HALTED. -/
  furtherCause : s.stoppage.furtherCause = true → s.clock.mode = .halted
  /-- R141 and R142: no window is in progress in SETUP, HOMING or HALTED. -/
  windows : s.clock.mode.stationsFire = false → ∀ c : Fin 8, s.cams[c].window = none
  /-- R141 and R144: no channel is forced outside SETUP. -/
  forces : s.clock.mode ≠ .setup → ∀ c : Fin 8, s.cams[c].forced = false
  /-- R84, R85: the presence latch is clear in HALTED. -/
  presence : s.clock.mode = .halted → s.carousel.presence = false
  /-- R185: the part is held in reset exactly while a reset source stands. -/
  sources : s.stoppage.held = true ↔ s.stoppage.asserted ≠ []

/-! ### Position (R1, R4, R7) -/

/-- R7: every numeric geometry field is within its range; the home phase, whose range hangs on E, apart. -/
def Geometry.inRange (g : Geometry) : Prop :=
  (8 ≤ g.clampCount ∧ g.clampCount ≤ 32) ∧ (1024 ≤ g.pitchCounts ∧ g.pitchCounts ≤ 16384)
    ∧ (200000 ≤ g.pitchLength ∧ g.pitchLength ≤ 1200000) ∧ (8 ≤ g.homeTolerance ∧ g.homeTolerance ≤ 512)
    ∧ (4 ≤ g.reverseTolerance ∧ g.reverseTolerance ≤ 256) ∧ (1 ≤ g.capacity ∧ g.capacity ≤ 48)

/-- The position stays within the geometry. -/
structure State.PositionSound (s : State) : Prop where
  /-- R7 -/
  geometry : s.clock.geometry.inRange
  /-- R1: the phase is 0..E−1. -/
  phase : s.clock.phase < s.clock.geometry.pitchCounts
  /-- R1: the clamp index is 0..N−1. -/
  clampIndex : s.clock.clampIndex < s.clock.geometry.clampCount
  /-- R13 (C3): once started, the home phase is less than E. -/
  homePhase : s.clock.mode.started = true → s.clock.geometry.homePhase < s.clock.geometry.pitchCounts
  /-- R1: once started, the lag is 0 up to the reverse tolerance. -/
  lag : s.clock.mode.started = true → s.clock.lag ≤ s.clock.geometry.reverseTolerance

/-! ### Tables (R27, R29, R32, R48, R80, R158) -/

/-- The tables keep their bounds. -/
structure State.TablesSound (s : State) : Prop where
  /-- R80: the clamp map holds one entry for each clamp. -/
  clampMap : s.carousel.clampMap.length = s.clock.geometry.clampCount
  /-- R32: the announce queue holds 0 to 8 books. -/
  announceQ : s.books.announceQ.length ≤ 8
  /-- R48: the reject list holds 0 to 16 entries. -/
  rejects : s.books.rejects.length ≤ 16
  /-- R48 and R50: the overrun flag is set only while the reject list holds an entry. -/
  overrun : s.books.overrun = true → s.books.rejects ≠ []
  /-- R158: the lift list holds 0 to 4 lifts. -/
  lifts : s.lifting.lifts.length ≤ 4
  /-- R29 and R35: a book holds 0 to 8 caliper samples of 0 to 99,999 µm. -/
  samples : ∀ b ∈ s.books.live, b.samples.length ≤ 8 ∧ ∀ x ∈ b.samples, x ≤ 99999
  /-- R190: eight bits are a byte: no port keeps that many of a byte not yet complete. -/
  bits : ∀ p : PortId, s.wires[p].bits.length < 8

/-! ### Serials (R28) -/

/-- The serials of the live books, in slot order. -/
def BookTable.serials (t : BookTable) : List Nat := t.live.map Book.serial

/-- R28: no two live books carry the same serial, and every serial is 1..65535. -/
structure State.SerialsSound (s : State) : Prop where
  distinct : s.books.serials.Nodup
  range : ∀ n ∈ s.books.serials, 1 ≤ n ∧ n ≤ 65535

/-! ### Lifts and occupancy (R52, R158 to R161) -/

/-- The lift list keeps its form. -/
structure State.LiftsSound (s : State) : Prop where
  /-- R158: at most 4 lifts. -/
  lifts : s.lifting.lifts.length ≤ 4
  /-- R160: no two lifts carry the same number. -/
  numbers : (s.lifting.lifts.map Lift.number).Nodup
  /-- R158: from the head, a DISPATCHED lift or none, then CLOSED lifts, then an OPEN lift or none. -/
  order : s.lifting.lifts.Pairwise fun a b => a.state ≠ .opened ∧ b.state ≠ .dispatched
  /-- R159: the window timer runs in OPEN alone, the trim timer in DISPATCHED alone. -/
  windowTimer : ∀ l ∈ s.lifting.lifts, (l.windowTimer.isSome = true ↔ l.state = .opened)
  trimTimer : ∀ l ∈ s.lifting.lifts, l.trimTimer.isSome = true → l.state = .dispatched
  /-- R158: a lift holds 1 to max count books. -/
  counts : ∀ l ∈ s.lifting.lifts, 1 ≤ l.books.length ∧ l.books.length ≤ s.lifting.limits.maxCount
  /-- R161: max count is at least 1. -/
  maxCount : 1 ≤ s.lifting.limits.maxCount

/-- R52: occupancy is within the downstream capacity, over a lift list of the right form. -/
structure State.OccupancySound (s : State) : Prop where
  bound : s.occupancy ≤ s.clock.geometry.capacity
  lifts : s.LiftsSound

/-! ### Pots (R114 to R122) -/

/-- The timers of a pot agree with its state. -/
structure Pot.Sound (p : Pot) : Prop where
  /-- R119: the settle timer runs exactly in SETTLING. -/
  settle : p.settle.isSome = true ↔ p.state = .settling
  /-- R120: the heat-up timer runs exactly in COLD. -/
  heatUp : p.heatUp.isSome = true ↔ p.state = .cold
  /-- R121: the stale timer does not run in UNKNOWN. -/
  stale : p.state = .unknown → p.stale = none
  /-- R115: a disabled pot is UNKNOWN. -/
  disabled : p.enabled = false → p.state = .unknown
  /-- R114: the filtered value is 0..4,000 tenths of a degree. -/
  filtered : p.filtered ≤ 4000

/-- Both pots are sound, and the SPINE pot is enabled (R114: fixed). -/
structure State.PotsSound (s : State) : Prop where
  spine : s.glue.spine.Sound
  side : s.glue.side.Sound
  spineEnabled : s.glue.spine.enabled = true

/-! ### Ranges (R34, R54) -/

/-- R54: every field of a job class is within its range. -/
def JobClass.InRange (c : JobClass) : Prop :=
  c.millDepth ≤ 4000 ∧ (5000 ≤ c.hingeOffset ∧ c.hingeOffset ≤ 12000) ∧ c.glueAllow ≤ 1500 ∧ c.nipSqueeze ≤ 800
    ∧ c.spineMargin ≤ 20000 ∧ c.sideMargin ≤ 40000 ∧ (5000 ≤ c.coolBase ∧ c.coolBase ≤ 300000)
    ∧ c.coolPerMm ≤ 10000

/-- R34: every job field is within its range. -/
def Job.InRange (j : Job) : Prop :=
  j.jobClass ≤ 7 ∧ (100000 ≤ j.rawHeight ∧ j.rawHeight ≤ 460000) ∧ (90000 ≤ j.height ∧ j.height ≤ 450000)
    ∧ (80000 ≤ j.rawWidth ∧ j.rawWidth ≤ 330000) ∧ (70000 ≤ j.width ∧ j.width ≤ 320000)
    ∧ (150000 ≤ j.coverWidth ∧ j.coverWidth ≤ 760000)

/-! ### START (R13) -/

/-- R13: each check of START by its number. -/
def State.checkPasses (s : State) : (check : Nat) → Prop
  | 1 => ∀ i : Fin 6,
      let a := s.clock.stations[i.castSucc]
      let b := s.clock.stations[i.succ]
      a.offset < b.offset ∨ (a.offset = b.offset ∧ a.phase < b.phase)
  | 2 => s.clock.stations[6].offset < s.clock.geometry.clampCount
  | 3 => s.clock.geometry.homePhase < s.clock.geometry.pitchCounts
  | 4 => ∀ i : Fin 7, s.clock.stations[i].phase < s.clock.geometry.pitchCounts
  | 5 => ∀ c : Fin 8, c ≠ 2 → c ≠ 3 → s.cams[c].start + s.cams[c].length ≤ s.clock.geometry.pitchCounts
  | 6 => ∀ id : PotId, (s.glue.pot id).enabled = true →
      (s.glue.pot id).low + (s.glue.pot id).hysteresis < (s.glue.pot id).high
  | 7 => s.lifting.limits.tolerance ≤ s.lifting.limits.maxHeight
  | 8 => ∀ (clamp serial : Nat) (b : Book), s.carousel.bookIn clamp = some serial →
      s.findBook serial = some b → b.suspect = false
  | _ => True

/-! ### Reads and stations -/

/-- R192: the port is ANSWERING a read's frame with the snapshot of its answer; nothing else is changed. -/
def State.answering (p : PortId) (frame answer : List Byte) (cyclic : Bool) (s : State) : State :=
  { s with ports := s.ports.set p { s.ports[p] with
      frame := .answering, collected := frame, snapshot := some ⟨answer, cyclic⟩, taking := none } }

/-- R1 and R11: the standstill timer after a count: restarted in RUN and RUNOUT, where it runs. -/
def State.timerAfterCount (s : State) : Option Nat :=
  if s.clock.mode = .run ∨ s.clock.mode = .runout then some (s.now + s.timers.standstill) else s.clock.standstillTimer

/-- R1, R2, R11 and R137: the high-water mark has moved by one count, within the pitch or over a pitch wrap, and every
window's travel with it; what the count then brings about (R9, R12, R16, R18) is not yet taken. -/
def State.marked (s : State) : State :=
  { s with
    clock :=
      if s.clock.phase + 1 < s.clock.geometry.pitchCounts then
        { s.clock with phase := s.clock.phase + 1, standstillTimer := s.timerAfterCount }
      else
        { s.clock with
          phase := 0, pitchCounter := s.clock.pitchCounter + 1
          clampIndex := (s.clock.clampIndex + 1) % s.clock.geometry.clampCount
          fired := Vector.replicate 7 false, standstillTimer := s.timerAfterCount
          pitchesSinceHome :=
            if s.clock.mode.stationsFire then s.clock.pitchesSinceHome + 1 else s.clock.pitchesSinceHome }
    cams := s.cams.map CamChannel.advance }

/-- R9: every station whose phase the phase has reached with its mark clear fires, Infeed first (entry 28). -/
def State.fireDue (s : State) : State :=
  (Station.all.filter fun m => s.clock.stations[m.index].phase ≤ s.clock.phase && !s.clock.fired[m.index]).foldl
    (fun t m => t.fireStation m) s

/-- R9: no station but `st` fires when the phase becomes `phase` without a pitch wrap; with none, no station does. -/
def State.onlyStationDue (s : State) (phase : Nat) (st : Option Station) : Prop :=
  ∀ m : Station, (some m = st ↔ s.clock.stations[m.index].phase ≤ phase ∧ s.clock.fired[m.index] = false)

end Machine

end Sys2Proof
end

