-- ==== Sys2Proof/WellFormed.lean ====
section
/-!
DEFINITION. Which terms of `Instr` stand for something that can reach the part. Every operand has its frame's width
by its type, so few checks are left.
-/

namespace Sys2Proof

/-- Can this command or event reach the part?
* CALIPER counts its samples in one byte (R202).
* RESOLVE_CLAMP_KEEP is a RESOLVE CLAMP frame whose decision byte is not REMOVE (R182, R203).
* FRAME_ERROR carries a frame that does err (R191), and FRAME_ABANDON one that is not already discarded (R193).
* A serial named by a book's own timer is 1 to 65,535 (R28). -/
def Instr.wellFormed : Instr → Bool
  | .caliper _ samples => samples.length < 256
  | .resolveClampKeep _ _ decision => decision != 1
  | .frameError _ bytes partialByte => isFrameError bytes partialByte
  | .frameAbandon _ bytes => isAbandonable bytes
  | .openTimeExpiry serial => serial != 0
  | .coolingExpiry serial => serial != 0
  | .readIdent _ | .readStatus _ | .readResult _ | .readAttention _ | .readBook _ _ | .readClampMap _ _
  | .readQueue _ _ _ | .readLifts _ | .readConfig _ | .nextDue _ | .nextLift _ | .readRejects _ _
  | .takeReject _ _ | .setAttention _ _ _ | .clearAttention _ _ | .announce _ _ _ _ _ _ _ _ _ | .seal _
  | .withdraw _ _ | .rejectBook _ _ | .start _ | .hold _ | .resume _ | .runout _ | .stop _ | .clearHalt _
  | .resolveClampRemove _ _ | .glueReading _ _ _ | .clearGlueFault _ _ | .resetDevice _ | .coverSeen _ _ _
  | .takeLift _ _ | .cutDone _ _ _ | .closeLift _ | .lockClamp _ _ | .unlockClamp _ _ | .setGeometry _ _ _
  | .setStation _ _ _ _ | .setSensor _ _ _ _ | .setCamWindow _ _ _ _ | .setJobClass _ _ _ _
  | .setGaugeCal _ _ _ | .setGlue _ _ _ _ | .setTimers _ _ _ | .setLiftLimits _ _ _ | .forceCam _ _ _
  | .forwardCount | .reverseCount | .homingTravelLimit | .pitchesSinceHomeLimit | .standstillReturn
  | .standstillExpiry | .sensorRawChange _ _ | .debounceExpiry _ | .supplyDipStart | .supplyReturn
  | .supplyEvent | .powerOnReset | .pinReset | .resetEnd _ | .sealTimerExpiry | .camWindowEnd _
  | .settleExpiry _ | .heatUpExpiry _ | .staleExpiry _ | .windowTimerExpiry | .trimTimerExpiry
  | .attnPulseEnd _ | .lampFlashToggle _ => true

end Sys2Proof
end

