-- ==== Sys2Proof/Certificates/Slice0/Obligations.lean ====
section
/-!
DEFINITION. What is stated of the part, for the provers.
-/

open Sys2Proof Sys2Proof.Machine

/-! ### The queue, time, reset -/

/-- A step takes the command at the front of the queue and is its `exec` with the queue's rest. -/
def Obligations.StepRunsFrontCommand : Prop :=
  ∀ (c : Instr) (rest : List Instr) (s : State), s.pending = c :: rest →
    step s = exec c { s with pending := rest }

/-- MODEL'S CHOICE (entries 1, 3, 5 and 27): with no command waiting and no line event arriving a millisecond passes,
and exactly these wait next: the expiries of the timers that are due at the new time, the event of a supply dip not yet
acted on, the abandonment of every frame in COLLECTING or ANSWERING whose gap has lasted 2 ms (R193), the end of every
attention pulse that is over; while the part is held in reset none does. With no command waiting, a line
event that arrives is taken on its port (R190), with no time passing. -/
def Obligations.IdlePostsTheExpiriesDue : Prop :=
  (∀ s : State, s.pending = [] → s.arriving = [] → ∃ t, step s = .next t
    ∧ t = { s with now := s.now + 1, pending := t.pending }
    ∧ (s.stoppage.held = true → t.pending = [])
    ∧ (s.stoppage.held = false → ∀ i : Instr,
      let due (timer : Option Nat) : Prop := ∃ at_, timer = some at_ ∧ at_ ≤ s.now + 1
      i ∈ t.pending ↔ match i with
        | .debounceExpiry n => due s.clock.sensors[sensorIndex n].pending
        | .standstillExpiry => due s.clock.standstillTimer
        | .sealTimerExpiry => due s.books.sealTimer
        | .settleExpiry id => due (s.glue.pot id).settle
        | .heatUpExpiry id => due (s.glue.pot id).heatUp
        | .staleExpiry id => due (s.glue.pot id).stale
        | .openTimeExpiry n =>
          ∃ b ∈ s.books.live, BitVec.ofNat 16 b.serial = n ∧ due (b.openTime.map OpenTimer.due)
        | .coolingExpiry n =>
          ∃ b ∈ s.books.live, BitVec.ofNat 16 b.serial = n ∧ b.state = .cooling ∧ due b.coolingDeadline
        | .windowTimerExpiry => ∃ l ∈ s.lifting.lifts, due l.windowTimer
        | .trimTimerExpiry => ∃ l ∈ s.lifting.lifts, due l.trimTimer
        | .supplyEvent => s.stoppage.supply = .dipping false
        | .lampFlashToggle .a => due s.stoppage.lampA.toggleAt
        | .lampFlashToggle .b => due s.stoppage.lampB.toggleAt
        | .frameAbandon p bytes => (s.ports[p].frame = .collecting ∨ s.ports[p].frame = .answering)
          ∧ bytes = s.ports[p].collected ∧ due s.wires[p].gap
        | .attnPulseEnd p => due s.ports[p].pulse
        | _ => False))
  ∧ ∀ (s : State) (p : PortId) (e : WireEvent) (rest : List (PortId × WireEvent)), s.pending = [] →
      s.arriving = (p, e) :: rest → step s = .next (({ s with arriving := rest } : State).takeWire p e)

/-- R185, R186: POWER_ON_RESET, PIN_RESET and a BINDER's RESET DEVICE begin a reset: the part is held, the cause is
recorded, its source stands, every frame in progress is dropped without a result and every pulse ends. R185: while the
part is held, a source that is asserted joins those that stand and leaves the recorded cause; no frame, line event,
count, edge or expiry is taken; the outputs stand at rest: every cam output low, INFEED_GATE inactive, both lamps off,
every ATTN inactive, every SDO low. MODEL'S CHOICE (entry 11): nothing else is changed when a reset begins, and every
register keeps its value while the part is held (the blocks go to their reset values when the reset ends); a command
waiting is then taken without effect rather than kept; the supply monitor follows the supply's fall and return. -/
def Obligations.ResetsBeginAndHoldThePart : Prop :=
  (∀ s : State, s.stoppage.held = false →
     let begun (cause : ResetCause) : State := { s with
       stoppage := { s.stoppage with held := true, resetCause := cause, asserted := [cause] }
       ports := s.ports.map fun q =>
         { q with frame := .idle, collected := [], snapshot := none, taking := none, pulse := none } }
     exec .powerOnReset s = .next (begun .powerOn) ∧ exec .pinReset s = .next (begun .pin)
     ∧ (∀ p : PortId, s.ports[p].role = .binder → exec (.resetDevice p) s = .next (begun .command))
     ∧ (∀ p : PortId, s.ports[p].role ≠ .binder →
         exec (.resetDevice p) s = .next (s.finish p 0x3F ⟨.refusedRole, 0⟩)))
  ∧ (∀ s : State, s.stoppage.held = true →
       let standing (sources : List ResetCause) : State :=
         { s with stoppage := { s.stoppage with asserted := sources } }
       let monitored (m : SupplyMonitor) : State := { s with stoppage := { s.stoppage with supply := m } }
       (∀ i source, (i = .powerOnReset ∧ source = .powerOn) ∨ (i = .pinReset ∧ source = .pin) →
         (source ∈ s.stoppage.asserted → exec i s = .next s)
         ∧ (source ∉ s.stoppage.asserted → exec i s = .next (standing (s.stoppage.asserted ++ [source]))))
       ∧ (s.stoppage.supply = .clear → exec .supplyDipStart s = .next (monitored (.dipping false)))
       ∧ (s.stoppage.supply ≠ .clear → exec .supplyDipStart s = .next s)
       ∧ exec .supplyReturn s = .next (monitored .clear)
       ∧ (∀ i : Instr, (∀ sample, i ≠ .resetEnd sample) →
         i ∉ [Instr.powerOnReset, .pinReset, .supplyDipStart, .supplyReturn] → exec i s = .next s)
       ∧ (∀ p e, s.takeWire p e = s)
       ∧ (∀ c, s.camOutput c = false) ∧ s.infeedGate = false ∧ (∀ lamp, s.lampOutput lamp = false)
       ∧ (∀ p, s.attnActive p = false) ∧ ∀ p, s.sdo p = false)

/-- R185: RESET_END ends the assertion of one source that stands; one of power-on or of the supply ends only with the
supply at or above its threshold (R179). While another source stands the part is held on, with the cause as recorded.
R187: with the last one the reset ends, and leaves every block at its reset values, with the recorded cause, the roles
sampled from the straps, the sensor levels from the raw inputs and the supply monitor from where the supply stands.
MODEL'S CHOICE: its own time and queues go on (entries 1 and 5); the end of a source that does not stand or cannot end
yet, and an end with no reset, change nothing (entry 11). -/
def Obligations.ResetEndRestoresResetValues : Prop :=
  ∀ (sample : ResetSample) (s : State),
    let source := sample.source
    let rest := s.stoppage.asserted.erase source
    let ends : Prop := source ∈ s.stoppage.asserted
      ∧ (source = .powerOn ∨ source = .supply → s.stoppage.supply = .clear)
    (s.stoppage.held = true → ends → rest = [] → exec (.resetEnd sample) s = .next
      { now := s.now
        clock := { State.reset.clock with sensors := sample.sensors.map fun level =>
          { edge := .rising, debounce := 2, raw := level, level := level, pending := none } }
        timers := State.reset.timers
        books := State.reset.books
        setpoints := State.reset.setpoints
        carousel := State.reset.carousel
        due := []
        glue := State.reset.glue
        cams := State.reset.cams
        delivery := []
        lifting := State.reset.lifting
        stoppage := { State.reset.stoppage with
          resetCause := s.stoppage.resetCause
          supply := if s.stoppage.supply = .clear then .clear else .dipping false }
        ports := Vector.ofFn fun p =>
          { role := roleOf sample.straps p, frame := .idle, collected := [], snapshot := none, taking := none,
            result := .ok, subject := 0, lastCode := 0, latches := 0, enables := (roleOf sample.straps p).enables,
            attnMode := .level, pulse := none }
        wires := Vector.replicate 4 ⟨[], 0, none, false, false⟩
        arriving := s.arriving
        pending := s.pending })
    ∧ (s.stoppage.held = true → ends → rest ≠ [] → exec (.resetEnd sample) s
        = .next { s with stoppage := { s.stoppage with asserted := rest } })
    ∧ (s.stoppage.held = true → ¬ ends → exec (.resetEnd sample) s = .next s)
    ∧ (s.stoppage.held = false → exec (.resetEnd sample) s = .next s)

/-- The reset values the spec states (R4, R7, R8, R19, R28, R51, R54, R56, R80, R85, R114, R161): the line mode, the
position, the homing travel and the pitches since home, the geometry, the stations, the empty tables, the counters, the
job classes, the gauge, the pots, the channels and the limits. R198: the enable set of each role, with which
State.reset and the end of a reset fill each port. The state after reset meets every invariant. -/
def Obligations.ResetValuesAsTheRulesGiveThem : Prop :=
  (let s := State.reset
   s.clock.mode = .setup ∧ s.clock.phase = 0 ∧ s.clock.clampIndex = 0 ∧ s.clock.pitchCounter = 0 ∧ s.clock.lag = 0
   ∧ s.clock.fired = Vector.replicate 7 false ∧ s.clock.standstillTimer = none
   ∧ s.clock.homingTravel = 0 ∧ s.clock.pitchesSinceHome = 0
   ∧ s.clock.geometry = ⟨24, 4096, 600000, 0, 64, 32, 32, .freeze⟩
   ∧ s.clock.stations = #v[⟨0, 1024⟩, ⟨3, 2048⟩, ⟨6, 512⟩, ⟨7, 256⟩, ⟨10, 2048⟩, ⟨11, 0⟩, ⟨16, 3072⟩]
   ∧ s.timers = ⟨400, 250, 8000, 1200, 2000, 4000, 1500, 30000⟩
   ∧ s.books.live = [] ∧ s.books.lastSerial = 0 ∧ s.books.announceQ = [] ∧ s.books.sealTimer = none
   ∧ s.books.rejects = [] ∧ s.books.overrun = false
   ∧ s.books.admitted = 0 ∧ s.books.done = 0 ∧ s.books.rejected = 0 ∧ s.books.withdrawn = 0
   ∧ s.setpoints.classes = Vector.replicate 8 ⟨2000, 8000, 300, 200, 5000, 15000, true, 30000, 1000⟩
   ∧ s.setpoints.gauge = ⟨.add, 0, 0, 600⟩
   ∧ s.carousel.clampMap = List.replicate 24 none ∧ (∀ c : Fin 24, s.carousel.locked c = false)
   ∧ s.carousel.presence = false ∧ s.due = [] ∧ s.delivery = [] ∧ s.lifting.lifts = []
   ∧ s.lifting.lastNumber = 0 ∧ s.lifting.limits = ⟨8, 100000, 500⟩
   ∧ s.glue.spine = ⟨1700, 1950, 30, 0, 2, true, .unknown, 0, none, none, none⟩
   ∧ s.glue.side = ⟨1650, 1900, 30, 0, 2, true, .unknown, 0, none, none, none⟩
   ∧ s.cams = #v[⟨0, 600, false, false, none⟩, ⟨0, 3800, false, false, none⟩, ⟨0, 0, false, false, none⟩,
       ⟨0, 0, false, false, none⟩, ⟨200, 1200, false, false, none⟩, ⟨100, 1600, false, false, none⟩,
       ⟨0, 800, false, false, none⟩, ⟨400, 1000, false, false, none⟩]
   ∧ s.stoppage.haltCause = none ∧ s.stoppage.furtherCause = false ∧ s.stoppage.asserted = []
   ∧ s.wires = Vector.replicate 4 ⟨[], 0, none, false, false⟩
   ∧ ∀ p : PortId, s.ports[p].enables = s.ports[p].role.enables ∧ s.ports[p].attnMode = .level
     ∧ s.ports[p].latches = 0 ∧ s.ports[p].result = .ok ∧ s.ports[p].subject = 0 ∧ s.ports[p].lastCode = 0)
  ∧ (∀ (role : Role) (cause : Attention), role.enables &&& cause.bit ≠ 0 ↔ (role, cause) ∈ [
      (Role.gather, Attention.halt), (.gather, .reject), (.gather, .space), (.binder, .halt), (.binder, .glue),
      (.binder, .mode), (.cover, .halt), (.cover, .due), (.trim, .halt), (.trim, .lift), (.trim, .overdue)])
  ∧ (State.reset.LineModeSound ∧ State.reset.PositionSound ∧ State.reset.TablesSound ∧ State.reset.PotsSound
     ∧ State.reset.SerialsSound ∧ State.reset.OccupancySound)

/-- R194: a port takes the role its straps spell, ROLE_A the more significant bit, unless a lower-numbered port
straps the same, and is OBSERVER then; and no command but the end of a reset changes a role. -/
def Obligations.RolesAreTakenAtResetEndOnly : Prop :=
  (∀ (straps : Vector Straps 4) (p : PortId),
    ((∃ q : PortId, q < p ∧ straps[q] = straps[p]) → roleOf straps p = .observer)
    ∧ ((∀ q : PortId, q < p → straps[q] ≠ straps[p]) →
        roleOf straps p = match straps[p].roleA, straps[p].roleB with
          | false, false => .gather
          | false, true => .binder
          | true, false => .cover
          | true, true => .trim))
  ∧ ∀ (i : Instr) (s t : State), (∀ sample, i ≠ .resetEnd sample) → exec i s = .next t →
      ∀ p : PortId, t.ports[p].role = s.ports[p].role

/-! ### Station ports -/

/-- R195: an action command is refused with REFUSED_ROLE from every role it is not taken from, before anything else is
examined, and nothing but its own port changes. R195: a configuration write from a role that may configure the part is
refused with REFUSED_MODE in every line mode but SETUP, and changes nothing but its own port. The subject of these
refusals where no rule names one, 0, is entry 12's. -/
def Obligations.RightsAreTestedFirst : Prop :=
  (∀ (i : Instr) (p : PortId) (s : State), i.actionPort = some p → s.stoppage.held = false →
     i.takenFrom s.ports[p].role = false →
     exec i s = .next (s.finish p i.actionCode ⟨.refusedRole, i.refusalSubject⟩))
  ∧ (∀ (i : Instr) (p : PortId) (s : State), i.isConfigWrite = true → i.actionPort = some p → s.stoppage.held = false →
       s.ports[p].role ≠ .observer → s.clock.mode ≠ .setup →
       exec i s = .next (s.finish p i.actionCode ⟨.refusedMode, i.refusalSubject⟩))

/-- R190, R196: the end of a command leaves its own port IDLE with the command's result, subject and code, its role,
latches, enables and attention mode as they were, and leaves every other port and every other block alone. R197,
R199, R203: raising a cause sets its latch on every port, whatever the enables, and starts a pulse on the ports in
PULSE mode that enable it, or restarts it (the 20 µs end within the model's millisecond, entry 3); nothing else is
changed. In LEVEL mode ATTN is active while an enabled latch is set, in
PULSE mode during a pulse. -/
def Obligations.ResultsAndRaisesReachTheirPorts : Prop :=
  (∀ (p : PortId) (code : Byte) (r : Reply) (s : State),
     s.finish p code r = { s with ports := (s.finish p code r).ports }
     ∧ (s.finish p code r).ports[p] = { s.ports[p] with
         frame := .idle, collected := [], snapshot := none, taking := none
         result := r.result, subject := BitVec.ofNat 16 r.subject, lastCode := code }
     ∧ ∀ q : PortId, q ≠ p → (s.finish p code r).ports[q] = s.ports[q])
  ∧ ((∀ (cause : Attention) (s : State), s.raise cause = { s with ports := (s.raise cause).ports }
       ∧ ∀ p : PortId, (s.raise cause).ports[p] = { s.ports[p] with
           latches := s.ports[p].latches ||| cause.bit
           pulse := if s.ports[p].attnMode = .pulse ∧ s.ports[p].enables &&& cause.bit ≠ 0 then some (s.now + 1)
             else s.ports[p].pulse })
     ∧ ([Attention.halt, .overdue, .glue, .reject, .lift, .due, .space, .mode, .frame].map Attention.bit
         = (List.range 9).map fun i => (1 : BitVec 9) <<< i)
     ∧ ∀ (p : PortId) (s : State), s.stoppage.held = false →
       (s.ports[p].attnMode = .level → (s.attnActive p = true ↔
         ∃ i < 9, s.ports[p].latches.getLsbD i = true ∧ s.ports[p].enables.getLsbD i = true))
       ∧ (s.ports[p].attnMode = .pulse → (s.attnActive p = true ↔ s.ports[p].pulse ≠ none)))

/-- R192: every read answers the state it finds and changes nothing but its own port's frame: result, subject,
latches and every other block stay. READ CLAMP MAP's answer begins again after its last entry (R83). -/
def Obligations.ReadsOnlySnapshot : Prop :=
  ∀ (p : PortId) (s : State), s.stoppage.held = false →
    exec (.readIdent p) s = .next (s.answering p [0x01] (s.identAnswer p) false)
    ∧ exec (.readStatus p) s = .next (s.answering p [0x02] s.statusAnswer false)
    ∧ exec (.readResult p) s = .next (s.answering p [0x03] s.ports[p].resultAnswer false)
    ∧ exec (.readAttention p) s = .next (s.answering p [0x04] s.ports[p].attentionAnswer false)
    ∧ (∀ serial, exec (.readBook p serial) s
        = .next (s.answering p (0x05 :: bytesOf 2 serial.toNat) (s.bookAnswer serial.toNat) false))
    ∧ (∀ start, exec (.readClampMap p start) s
        = .next (s.answering p [0x06, start] (s.clampMapAnswer start.toNat) true))
    ∧ (∀ queue start, exec (.readQueue p queue start) s
        = .next (s.answering p [0x07, queue, start] (s.queueAnswer queue.toNat start.toNat) false))
    ∧ exec (.readLifts p) s = .next (s.answering p [0x08] s.liftsAnswer false)
    ∧ exec (.readConfig p) s = .next (s.answering p [0x09] s.configAnswer false)
    ∧ exec (.nextDue p) s = .next (s.answering p [0x0A] s.nextDueAnswer false)
    ∧ exec (.nextLift p) s = .next (s.answering p [0x0B] s.nextLiftAnswer false)
    ∧ (∀ start, exec (.readRejects p start) s
        = .next (s.answering p [0x0C, start] (s.rejectsAnswer start.toNat) false))

/-- R202: each answer has the length of the command table, in every state. R205, R206, R207: every field of every read
but READ BOOK stands at its place, most significant byte first (R190), in the codes of R203: READ STATUS, READ IDENT,
READ RESULT; READ ATTENTION with the highest-priority cause that is latched and enabled (R200); READ CLAMP MAP from the
start clamp modulo N, upward and round (R83); READ QUEUE's three queues from the start index (R53, R106, R157); READ
LIFTS (R176); READ CONFIG (R58); NEXT DUE, the oldest entry without a report (R105); NEXT LIFT, the oldest CLOSED lift
(R168); READ REJECTS (R49). A pot's flags compare its filtered value with its limits, without hysteresis, and are clear
in UNKNOWN (R123); the suspect count is the live books that are suspect (R181). The codes themselves, for these answers
and for READ BOOK's: R203, R43. -/
def Obligations.AnswersHaveTheTableLayout : Prop :=
  let holds (answer : List Byte) (fields : List (Nat × Nat × Nat)) : Prop :=
    ∀ entry ∈ fields, natAt answer entry.1 entry.2.1 = entry.2.2 % 256 ^ entry.2.1
  ([Role.gather, .binder, .cover, .trim, .observer].map Role.code = [0, 1, 2, 3, 4]
   ∧ [ModeName.setup, .homing, .run, .hold, .runout, .halted].map ModeName.code = [0, 1, 2, 3, 4, 5]
   ∧ (∀ ret, (LineMode.hold .standstill ret).holdKindCode = 1 ∧ (LineMode.hold .commanded ret).holdKindCode = 2)
   ∧ (∀ kind, (LineMode.hold kind .run).returnCode = 2 ∧ (LineMode.hold kind .runout).returnCode = 4)
   ∧ (∀ mode : LineMode, mode.name ≠ .hold → mode.holdKindCode = 0 ∧ mode.returnCode = 0xFF)
   ∧ [HaltCause.reverse, .homeMismatch, .homeMissing, .jamA, .jamB, .supply].map HaltCause.code = [1, 2, 3, 4, 5, 6]
   ∧ [ResetCause.powerOn, .pin, .supply, .command].map ResetCause.code = [1, 2, 3, 4]
   ∧ [Station.infeed, .mill, .spineGlue, .sideGlue, .cover, .nip, .release].map Station.code = [1, 2, 3, 4, 5, 6, 7]
   ∧ [BookState.announced, .sealed, .inClamp, .cooling, .ready, .inLift, .cutting].map BookState.code
       = [1, 2, 3, 4, 5, 6, 7]
   ∧ [PotState.unknown, .cold, .settling, .ready, .hot, .fault].map PotState.code = [0, 1, 2, 3, 4, 5]
   ∧ [LiftState.opened, .closed, .dispatched].map LiftState.code = [1, 2, 3]
   ∧ [RejectCause.specRange, .unannounced, .noCaliper, .wedge, .caliperRange, .trimMargin, .coverShort, .scoreReach,
       .glueTemp, .coverMismatch, .coverLate, .openTime, .operator, .removed, .trimFault, .glueInterrupted].map
         RejectCause.code = [1, 2, 3, 4, 5, 6, 7, 8, 9, 10, 11, 12, 13, 14, 15, 16]
   ∧ [Where.release, .trimmer, .recovery].map Where.code = [1, 2, 3]
   ∧ [EdgeSelect.rising, .falling, .both].map EdgeSelect.code = [0, 1, 2]
   ∧ [AttnMode.level, .pulse].map AttnMode.code = [0, 1] ∧ flag false = 0 ∧ flag true = 1
   ∧ [Result.ok, .adjusted, .refusedRole, .refusedMode, .refusedRange, .refusedFull, .refusedUnknown, .refusedBusy,
       .refusedOrder, .tooLate, .notApplied, .duplicate, .frameError].map Result.code
         = [0x00, 0x01, 0x10, 0x11, 0x12, 0x13, 0x14, 0x15, 0x16, 0x20, 0x21, 0x22, 0x30])
  ∧ (∀ p : Pot, (p.belowLow = true ↔ p.state ≠ .unknown ∧ p.filtered < p.low)
       ∧ (p.aboveHigh = true ↔ p.state ≠ .unknown ∧ p.high < p.filtered))
  ∧ (∀ s : State, s.suspectCount = (s.books.slots.toList.filter fun slot => slot.any Book.suspect).length)
  ∧ (∀ (s : State) (p : PortId),
     (s.identAnswer p).length = 5 ∧ s.statusAnswer.length = 46 ∧ s.ports[p].resultAnswer.length = 4
     ∧ s.ports[p].attentionAnswer.length = 6 ∧ (∀ n, (s.bookAnswer n).length = 117)
     ∧ (∀ n, (s.clampMapAnswer n).length = 4 * s.clock.geometry.clampCount)
     ∧ s.liftsAnswer.length = 168 ∧ s.configAnswer.length = 282 ∧ s.nextDueAnswer.length = 22
     ∧ s.nextLiftAnswer.length = 52
     ∧ (∀ n, (s.rejectsAnswer n).length = 2 + 8 * (s.books.rejects.length - n))
     ∧ (∀ n, (s.queueAnswer 0 n).length = 4 * (s.books.announceQ.length - n))
     ∧ (∀ n, (s.queueAnswer 1 n).length = 6 * (s.delivery.length - n))
     ∧ (∀ n, (s.queueAnswer 2 n).length = 4 * (s.due.length - n))
     ∧ ∀ queue n, 3 ≤ queue → s.queueAnswer queue n = [])
  ∧ (∀ s : State,
       let flags (p : Pot) := flag p.belowLow + 2 * flag p.aboveHigh + 4 * flag p.enabled
       holds s.statusAnswer [(0, 1, s.clock.mode.name.code), (1, 1, s.clock.mode.holdKindCode),
         (2, 1, s.clock.mode.returnCode), (3, 1, (s.stoppage.haltCause.map HaltCause.code).getD 0),
         (4, 1, flag s.stoppage.furtherCause), (5, 1, s.stoppage.resetCause.code),
         (6, 1, s.glue.spine.state.code), (7, 2, s.glue.spine.filtered), (9, 1, flags s.glue.spine),
         (10, 1, s.glue.side.state.code), (11, 2, s.glue.side.filtered), (13, 1, flags s.glue.side),
         (14, 1, flag s.glue.ready), (15, 1, s.occupancy), (16, 1, s.clock.geometry.capacity),
         (17, 1, s.books.announceQ.length), (18, 1, s.delivery.length), (19, 1, s.lifting.lifts.length),
         (20, 1, s.books.rejects.length), (21, 1, flag s.books.overrun),
         (22, 4, s.books.admitted.toNat), (26, 4, s.books.done.toNat), (30, 4, s.books.rejected.toNat),
         (34, 4, s.books.withdrawn.toNat), (38, 4, s.clock.pitchCounter.toNat),
         (42, 1, s.clock.clampIndex), (43, 2, s.clock.phase), (45, 1, s.suspectCount)])
  ∧ (∀ (s : State) (p : PortId),
       let q := s.ports[p]
       let wanted (i : Nat) : Prop := q.latches.getLsbD i = true ∧ q.enables.getLsbD i = true
       holds (s.identAnswer p) [(0, 2, 0x2416), (2, 1, 0x01), (3, 1, p.val), (4, 1, q.role.code)]
       ∧ holds q.resultAnswer [(0, 1, q.result.code), (1, 2, q.subject.toNat), (3, 1, q.lastCode.toNat)]
       ∧ holds q.attentionAnswer [(1, 2, q.latches.toNat), (3, 2, q.enables.toNat), (5, 1, q.attnMode.code)]
       ∧ ((∀ i < 9, ¬ wanted i) → natAt q.attentionAnswer 0 1 = 0)
       ∧ ∀ i < 9, wanted i → (∀ j < i, ¬ wanted j) → natAt q.attentionAnswer 0 1 = i + 1)
  ∧ (∀ (s : State) (start i : Nat), i < s.clock.geometry.clampCount →
       let clamp := (start + i) % s.clock.geometry.clampCount
       let b := (s.carousel.bookIn clamp).bind s.findBook
       holds (s.clampMapAnswer start) [(4 * i, 2, (s.carousel.bookIn clamp).getD 0),
         (4 * i + 2, 1, flag (s.carousel.locked clamp) + 2 * flag (b.any Book.suspect)),
         (4 * i + 3, 1, ((b.bind Book.progress).map Station.code).getD 0)])
  ∧ (∀ (s : State) (start i n : Nat) (b : Book), s.findBook n = some b →
       (s.books.announceQ[start + i]? = some n → holds (s.queueAnswer 0 start)
         [(4 * i, 2, n), (4 * i + 2, 1, b.state.code), (4 * i + 3, 1, b.samples.length)])
       ∧ (s.delivery[start + i]? = some n → holds (s.queueAnswer 1 start)
         [(6 * i, 2, n), (6 * i + 2, 1, b.state.code),
           (6 * i + 3, 3, if b.state = .cooling then (b.coolingDeadline.map fun at_ => at_ - s.now).getD 0 else 0)]))
  ∧ (∀ (s : State) (start i : Nat) (e : DueEntry), s.due[start + i]? = some e → holds (s.queueAnswer 2 start)
       [(4 * i, 2, e.serial), (4 * i + 2, 1, flag e.want), (4 * i + 3, 1, flag e.received)])
  ∧ (∀ (s : State) (start i : Nat),
       holds (s.rejectsAnswer start) [(0, 1, s.books.rejects.length), (1, 1, flag s.books.overrun)]
       ∧ ∀ e, s.books.rejects[start + i]? = some e → holds (s.rejectsAnswer start)
         [(2 + 8 * i, 2, e.serial), (4 + 8 * i, 4, e.jobKey.toNat), (8 + 8 * i, 1, e.cause.code),
           (9 + 8 * i, 1, e.place.code)])
  ∧ (∀ (s : State) (i : Fin 4),
       (s.lifting.lifts[i.val]? = none → natAt s.liftsAnswer (42 * i) 42 = 0)
       ∧ ∀ l, s.lifting.lifts[i.val]? = some l →
         let running (timer : Option Nat) : Nat := (timer.map fun at_ => at_ - s.now).getD 0
         holds s.liftsAnswer [(42 * i, 1, l.number), (42 * i + 1, 1, l.state.code),
           (42 * i + 2, 1, l.books.length), (42 * i + 3, 1, flag l.overdue), (42 * i + 4, 3, l.height),
           (42 * i + 7, 3, match l.state with
             | .opened => running l.windowTimer
             | .dispatched => running l.trimTimer
             | .closed => 0)]
         ∧ ∀ k : Fin 16, holds s.liftsAnswer [(42 * i + 10 + 2 * k, 2, l.books[k.val]?.getD 0)])
  ∧ (∀ s : State,
       ((∀ l ∈ s.lifting.lifts, l.state ≠ .closed) → natAt s.nextLiftAnswer 0 52 = 0)
       ∧ ∀ before l after, s.lifting.lifts = before ++ l :: after → (∀ m ∈ before, m.state ≠ .closed) →
         l.state = .closed →
         (∀ k : Fin 16, holds s.nextLiftAnswer [(2 + 2 * k, 2, l.books[k.val]?.getD 0)])
         ∧ holds s.nextLiftAnswer [(0, 1, l.number), (1, 1, l.books.length), (49, 3, l.height)]
         ∧ ∀ n r job sp, l.books.head? = some n → s.findBook n = some r → r.job = some job →
           r.setPoints = some sp → holds s.nextLiftAnswer [(34, 3, job.height), (37, 3, job.width),
             (40, 3, sp.headTrim), (43, 3, sp.footTrim), (46, 3, sp.foreTrim)])
  ∧ (∀ s : State,
       ((∀ e ∈ s.due, e.received = true) → natAt s.nextDueAnswer 0 22 = 0)
       ∧ ∀ before e after b, s.due = before ++ e :: after → (∀ d ∈ before, d.received = true) →
         e.received = false → s.findBook e.serial = some b →
         let sp (f : SetPoints → Nat) : Nat := (b.setPoints.map f).getD 0
         holds s.nextDueAnswer [(0, 2, e.serial), (2, 4, b.expectedCover.toNat), (6, 1, flag e.want),
           (7, 3, (b.job.map Job.coverWidth).getD 0), (10, 3, sp SetPoints.outer1), (13, 3, sp SetPoints.inner1),
           (16, 3, sp SetPoints.inner2), (19, 3, sp SetPoints.outer2)])
  ∧ ∀ s : State,
      let g := s.clock.geometry
      let gauge := s.setpoints.gauge
      let t := s.timers
      let l := s.lifting.limits
      holds s.configAnswer [(0, 1, g.clampCount), (1, 2, g.pitchCounts), (3, 3, g.pitchLength), (6, 2, g.homePhase),
        (8, 2, g.homeTolerance), (10, 2, g.reverseTolerance), (12, 1, g.capacity),
        (13, 1, flag (decide (g.supplyAction = .reset))),
        (235, 1, flag (decide (gauge.sign = .subtract))), (236, 1, gauge.shift), (237, 2, (gauge.offset % 65536).toNat),
        (239, 2, gauge.spreadLimit),
        (259, 2, t.sealIdle), (261, 2, t.standstill), (263, 2, t.glueSettle), (265, 2, t.heatUp), (267, 2, t.stale),
        (269, 2, t.openLimit), (271, 2, t.liftWindow), (273, 3, t.trimTimeout),
        (276, 1, l.maxCount), (277, 3, l.maxHeight), (280, 2, l.tolerance)]
      ∧ (∀ i : Fin 7, holds s.configAnswer
          [(14 + 3 * i, 1, s.clock.stations[i].offset), (15 + 3 * i, 2, s.clock.stations[i].phase)])
      ∧ (∀ i : Fin 4, holds s.configAnswer
          [(35 + 2 * i, 1, s.clock.sensors[i].edge.code), (36 + 2 * i, 1, s.clock.sensors[i].debounce)])
      ∧ (∀ c : Fin 8,
          let fixed (n : Nat) : Nat := if c = 2 ∨ c = 3 then 0 else n
          holds s.configAnswer [(43 + 6 * c, 2, fixed s.cams[c].start), (45 + 6 * c, 2, fixed s.cams[c].length),
            (47 + 6 * c, 1, flag s.cams[c].activeLow), (48 + 6 * c, 1, flag s.cams[c].forced)])
      ∧ (∀ k : Fin 8,
          let c := s.setpoints.classes[k]
          holds s.configAnswer [(91 + 18 * k, 2, c.millDepth), (93 + 18 * k, 2, c.hingeOffset),
            (95 + 18 * k, 2, c.glueAllow), (97 + 18 * k, 2, c.nipSqueeze), (99 + 18 * k, 2, c.spineMargin),
            (101 + 18 * k, 2, c.sideMargin), (103 + 18 * k, 1, flag c.sideUsed), (104 + 18 * k, 3, c.coolBase),
            (107 + 18 * k, 2, c.coolPerMm)])
      ∧ ∀ id : PotId,
          let q := s.glue.pot id
          let base := match id with
            | .spine => 241
            | .side => 250
          holds s.configAnswer [(base, 2, q.low), (base + 2, 2, q.high), (base + 4, 1, q.hysteresis),
            (base + 5, 2, (q.offset % 65536).toNat), (base + 7, 1, q.shift), (base + 8, 1, flag q.enabled)]

/-- R204: every field of READ BOOK stands at its place, in the codes that AnswersHaveTheTableLayout states; an absent
field reads 0 and its flag is clear; a serial of no live book reads 0 in every byte. -/
def Obligations.BookFieldsStandWhereTheTablePutsThem : Prop :=
  ∀ (s : State) (serial : Nat),
    (s.findBook serial = none → s.bookAnswer serial = List.replicate 117 0)
    ∧ ∀ b, s.findBook serial = some b →
      let job (f : Job → Nat) : Nat := (b.job.map f).getD 0
      let sp (f : SetPoints → Nat) : Nat := (b.setPoints.map f).getD 0
      let side (f : GlueWindow → Nat) : Nat := ((b.setPoints.bind SetPoints.sideWindow).map f).getD 0
      (s.bookAnswer serial).length = 117
      ∧ (∀ entry ∈ ([(0, 2, b.serial), (2, 1, b.state.code),
          (3, 1, flag b.job.isSome + 2 * flag b.setPoints.isSome + 4 * flag b.suspect + 8 * flag b.coverApplied
            + 16 * flag b.observedCover.isSome + 32 * flag b.clamp.isSome
            + 64 * flag (b.setPoints.bind SetPoints.sideWindow).isSome + 128 * flag b.coolingDeadline.isSome),
          (4, 1, (b.cause.map RejectCause.code).getD 0),
          (5, 1, flag b.warnings.nipFloor + 2 * flag b.warnings.glueClipped + 4 * flag b.warnings.sideClipped
            + 8 * flag b.warnings.coolCapped),
          (6, 4, job fun j => j.jobKey.toNat), (10, 1, job Job.jobClass), (11, 3, job Job.rawHeight),
          (14, 3, job Job.height), (17, 3, job Job.rawWidth), (20, 3, job Job.width), (23, 3, job Job.coverWidth),
          (26, 4, b.expectedCover.toNat), (30, 1, b.samples.length),
          (55, 1, b.clamp.getD 0), (56, 1, (b.progress.map Station.code).getD 0),
          (57, 4, (b.admittedAt.map BitVec.toNat).getD 0), (61, 4, (b.observedCover.map BitVec.toNat).getD 0),
          (65, 1, flag b.openTime.isSome), (66, 2, (b.openTime.map fun timer => s.now - timer.started).getD 0),
          (68, 3, (b.coolingDeadline.map fun due => due - s.now).getD 0), (71, 1, b.liftNumber.getD 0),
          (72, 3, sp SetPoints.caliper), (75, 3, sp SetPoints.spine), (78, 2, sp SetPoints.millDepth),
          (80, 3, sp SetPoints.headTrim), (83, 3, sp SetPoints.footTrim), (86, 3, sp SetPoints.foreTrim),
          (89, 3, sp SetPoints.outer1), (92, 3, sp SetPoints.inner1), (95, 3, sp SetPoints.inner2),
          (98, 3, sp SetPoints.outer2), (101, 3, sp SetPoints.nipGap),
          (104, 2, sp fun r => r.spineWindow.start), (106, 2, sp fun r => r.spineWindow.length),
          (108, 2, side GlueWindow.start), (110, 2, side GlueWindow.length),
          (112, 2, sp SetPoints.windowE), (114, 3, sp SetPoints.coolingTime)] : List (Nat × Nat × Nat)),
        natAt (s.bookAnswer serial) entry.1 entry.2.1 = entry.2.2 % 256 ^ entry.2.1)
      ∧ ∀ k : Fin 8, natAt (s.bookAnswer serial) (31 + 3 * k) 3 = b.samples[k.val]?.getD 0 % 256 ^ 3

/-- R198 and R201: SET ATTENTION writes its own port's enable set and mode and leaves the latches; CLEAR ATTENTION
clears the latches of the mask on its own port; a mask with any of bits 9 to 15, or a mode that is none, is refused.
R199: a pulse goes on only where the mode was PULSE and stays PULSE. R193: FRAME_ERROR and FRAME_ABANDON leave
FRAME_ERROR, the received code as subject and code and the FRAME latch at their own port, and nothing anywhere else;
where no whole byte came the subject is 0, and that the code is then 0x00 too is the model's choice (entry 30); an abandoned frame leaves its port DISCARDING. With select low on the port's lines a frame is
abandoned only in COLLECTING or ANSWERING, with 2 ms gone since the last clock edge, and FRAME_ABANDON of any other
frame changes nothing. MODEL'S CHOICE: with select high there, the row is a whole frame of its own (entries 5, 21).
R199: ATTN_PULSE_END ends its own port's pulse once its 20 µs are over, by the model's millisecond (entry 3); named
before, or after a raise has restarted the pulse, or with none, it changes nothing (entry 2). -/
def Obligations.AttentionAndFailedFramesActOnTheirPort : Prop :=
  (∀ (p : PortId) (mask : Word16) (attnMode : Byte) (s : State), s.stoppage.held = false →
     (mask.toNat < 512 → ∀ m : AttnMode, (attnMode = 0 ∧ m = .level) ∨ (attnMode = 1 ∧ m = .pulse) →
       exec (.setAttention p mask attnMode) s = .next ((s.modifyPort p fun q => { q with
         enables := mask.setWidth 9, attnMode := m
         pulse := if q.attnMode = .pulse ∧ m = .pulse then q.pulse else none }).finish p 0x10 ⟨.ok, 0⟩))
     ∧ (512 ≤ mask.toNat ∨ 2 ≤ attnMode.toNat →
         exec (.setAttention p mask attnMode) s = .next (s.finish p 0x10 ⟨.refusedRange, 0⟩))
     ∧ (mask.toNat < 512 → exec (.clearAttention p mask) s = .next
         ((s.modifyPort p fun q => { q with latches := q.latches &&& ~~~ mask.setWidth 9 }).finish p 0x11 ⟨.ok, 0⟩))
     ∧ (512 ≤ mask.toNat → exec (.clearAttention p mask) s = .next (s.finish p 0x11 ⟨.refusedRange, 0⟩)))
  ∧ (∀ (p : PortId) (bytes : List Byte) (partialByte : Bool) (s : State), s.stoppage.held = false →
       let failed (after : FrameState) : State := { s with ports := s.ports.set p { s.ports[p] with
         frame := after, collected := [], snapshot := none, taking := none
         result := .frameError, subject := (bytes.headD 0).setWidth 16, lastCode := bytes.headD 0
         latches := s.ports[p].latches ||| 0b100000000
         pulse := if s.ports[p].attnMode = .pulse ∧ s.ports[p].enables.getLsbD 8 = true then some (s.now + 1)
           else s.ports[p].pulse } }
       (isFrameError bytes partialByte = true → exec (.frameError p bytes partialByte) s = .next (failed .idle))
       ∧ (∀ due, s.wires[p].gap = some due →
         let abandoned : Prop := due ≤ s.now ∧ bytes = s.ports[p].collected
           ∧ (s.ports[p].frame = .collecting ∨ s.ports[p].frame = .answering)
         (abandoned → exec (.frameAbandon p bytes) s = .next (failed .discarding))
         ∧ (¬ abandoned → exec (.frameAbandon p bytes) s = .next s))
       ∧ (s.wires[p].gap = none → isAbandonable bytes = true →
         exec (.frameAbandon p bytes) s = .next (failed .discarding))
       ∧ (∀ due, s.ports[p].pulse = some due →
         (due ≤ s.now → exec (.attnPulseEnd p) s
           = .next { s with ports := s.ports.set p { s.ports[p] with pulse := none } })
         ∧ (s.now < due → exec (.attnPulseEnd p) s = .next s))
       ∧ (s.ports[p].pulse = none → exec (.attnPulseEnd p) s = .next s))

/-- R202: for every well-formed command that is a frame of its own, the frame its bytes make is read back as that
command, with every operand at every value its field admits. R191, R192, R202: the codes and lengths; which frames give
FRAME_ERROR: an unknown code, a read ended before its last argument byte, an action frame that ends in a partial byte
or is not of its length (2 + 3 × n for CALIPER), a TAKE REJECT of 9 bytes or more and a partial one (shorter ones are
R50's), a partial byte with no whole one; nothing clocked is no frame (R193). R190 to R193, on the lines of one port
(the taking of line events one by one is the model's choice, entry 5): select falling begins a frame; SDI is sampled on
the rising edges of SCK: eight bits, the first the most significant, are a byte, collected in COLLECTING and not examined in ANSWERING and DISCARDING;
an unknown code makes the port DISCARDING, and nothing is taken at its byte: its FRAME ERROR comes only when select
rises (no rule says which of the two moments it comes with: the model's choice, entry 21); the last argument byte of a
read, and the command byte of a TAKE REJECT, are what is taken next; select rising makes the port IDLE, and what its
frame was is taken next: its command, a FRAME ERROR, the release of a TAKE REJECT, or nothing (with edges of SCK and no
bit sampled it is a FRAME ERROR: no rule speaks of it, the model's choice, entry 21); the 2 ms of a gap are measured anew
from select falling and from each edge of SCK, rising or falling, and not while select is high (R193). A falling edge
of SCK drives SDO with the next bit: of the snapshot in ANSWERING, else low; outside ANSWERING SDO is low (at an
abandoned frame without waiting for an edge: DEDUCED, entry 5). -/
def Obligations.FramesReadBack : Prop :=
  (∀ (i : Instr) (p : PortId) (bytes : List Byte), i.wellFormed = true → portOf i = some p →
    encodeFrame i = some bytes → decodeFrame p bytes false = some i)
  ∧ (let reads : List (Nat × Nat) := [(0x01, 1), (0x02, 1), (0x03, 1), (0x04, 1), (0x05, 3), (0x06, 2), (0x07, 3),
       (0x08, 1), (0x09, 1), (0x0A, 1), (0x0B, 1), (0x0C, 2)]
     let actions : List (Nat × Nat) := [(0x10, 4), (0x11, 3), (0x20, 25), (0x22, 1), (0x23, 3), (0x24, 3), (0x30, 1),
       (0x31, 1), (0x32, 1), (0x33, 1), (0x34, 1), (0x35, 1), (0x36, 3), (0x37, 4), (0x38, 2), (0x3F, 1), (0x40, 7),
       (0x50, 2), (0x51, 3), (0x52, 1), (0x60, 2), (0x61, 2), (0x70, 6), (0x71, 5), (0x72, 5), (0x73, 7), (0x74, 6),
       (0x75, 5), (0x76, 6), (0x77, 6), (0x78, 4), (0x79, 3)]
     let known (code : Byte) : Prop :=
       code = 0x0D ∨ code = 0x21 ∨ ∃ entry ∈ reads ++ actions, entry.1 = code.toNat
     (∀ (code : Byte) (n : Nat), frameShape code = some (.read n) ↔ (code.toNat, n + 1) ∈ reads)
     ∧ (∀ code : Byte, frameShape code = none ↔ ¬ known code)
     ∧ (∀ bytes, isAbandonable bytes = true ↔ ∀ code, bytes.head? = some code → known code)
     ∧ (∀ partialByte, isFrameError [] partialByte = partialByte)
     ∧ (∀ (code : Byte) (args : List Byte) (partialByte : Bool),
       let length := args.length + 1
       let err : Prop := isFrameError (code :: args) partialByte = true
       (¬ known code → err)
       ∧ (∀ n, (code.toNat, n) ∈ reads → (err ↔ length < n))
       ∧ (∀ n, (code.toNat, n) ∈ actions → (err ↔ partialByte = true ∨ length ≠ n))
       ∧ (code = 0x0D → (err ↔ partialByte = true ∧ 9 ≤ length))
       ∧ (code = 0x21 → args = [] → err)
       ∧ (code = 0x21 → ∀ n : Byte, args.head? = some n → (err ↔ partialByte = true ∨ length ≠ 2 + 3 * n.toNat)))
     ∧ ∀ p : PortId, decodeFrame p [] false = none
       ∧ ∀ bytes partialByte, isFrameError bytes partialByte = true →
         decodeFrame p bytes partialByte = some (.frameError p bytes partialByte))
  ∧ ∀ (p : PortId) (s : State), s.stoppage.held = false →
    let q := s.ports[p]
    let w := s.wires[p]
    let line (q : Port) (w : PortWire) (taken : Option Instr) : State := { s with
      ports := s.ports.set p q, wires := s.wires.set p w, pending := s.pending ++ taken.toList }
    let partialByte : Bool := decide (w.bits ≠ [] ∨ (q.collected = [] ∧ w.edge = true))
    let edged : PortWire := { w with gap := some (s.now + 2), edge := true }
    s.takeWire p .selectFall
        = line { q with frame := .collecting, collected := [], snapshot := none, taking := none }
          ⟨[], 0, some (s.now + 2), false, false⟩ none
    ∧ (∀ sdi : Bool,
      (q.frame = .idle → s.takeWire p (.clockRise sdi) = s)
      ∧ (q.frame ≠ .idle → w.bits.length < 7 →
        s.takeWire p (.clockRise sdi) = line q { edged with bits := w.bits ++ [sdi] } none)
      ∧ (q.frame = .answering ∨ q.frame = .discarding → w.bits.length = 7 →
        s.takeWire p (.clockRise sdi) = line q { edged with bits := [], answered := w.answered + 1 } none)
      ∧ (q.frame = .collecting → w.bits.length = 7 → ∀ b : Byte,
        (∀ k : Fin 8, some (b.getMsbD k) = (w.bits ++ [sdi])[k.val]?) →
        let bytes := q.collected ++ [b]
        let collected (after : FrameState) (taken : Option Instr) : State :=
          line { q with frame := after, collected := bytes } { edged with bits := [] } taken
        let code := bytes.headD 0
        (frameShape code = none → s.takeWire p (.clockRise sdi) = collected .discarding none)
        ∧ (∀ n, frameShape code = some (.read n) → bytes.length = n + 1 →
          s.takeWire p (.clockRise sdi) = collected .collecting (decodeFrame p bytes false))
        ∧ (code = 0x0D → bytes.length = 1 →
          s.takeWire p (.clockRise sdi) = collected .collecting (some (.takeReject p .commandByte)))
        ∧ (frameShape code ≠ none → (∀ n, frameShape code = some (.read n) → bytes.length ≠ n + 1) →
          (code = 0x0D → bytes.length ≠ 1) → s.takeWire p (.clockRise sdi) = collected .collecting none)))
    ∧ (let ended (taken : Option Instr) : Prop := s.takeWire p .selectRise
        = line { q with frame := .idle, collected := [], snapshot := none }
            ⟨[], 0, none, false, false⟩ taken
      (q.frame = .idle → ended none)
      ∧ (q.frame = .collecting → ended (decodeFrame p q.collected partialByte))
      ∧ (q.frame = .answering → q.taking = none → ended none)
      ∧ (q.frame = .answering → q.taking ≠ none → q.collected = [0x0D] →
        (partialByte = true → 8 ≤ w.answered →
          ended (some (.frameError p (0x0D :: List.replicate w.answered 0) true)))
        ∧ (partialByte = false ∨ w.answered < 8 → ended (some (.takeReject p (.release w.answered)))))
      ∧ (q.frame = .discarding → q.collected = [] → ended none)
      ∧ (q.frame = .discarding → q.collected ≠ [] → ended (some (.frameError p q.collected partialByte))))
    ∧ (q.frame = .idle → s.takeWire p .clockFall = s)
    ∧ (∀ a, q.frame = .answering → q.snapshot = some a →
      let byte : Byte := a.bytes[if a.cyclic then w.answered % a.bytes.length else w.answered]?.getD 0
      s.takeWire p .clockFall = line q { edged with sdo := byte.getMsbD w.bits.length } none)
    ∧ (q.frame = .collecting ∨ q.frame = .discarding →
      s.takeWire p .clockFall = line q { edged with sdo := false } none)
    ∧ (s.sdo p = true ↔ q.frame = .answering ∧ w.sdo = true)

/-! ### Book records -/

/-- R27 and R28: a book takes the lowest-numbered free slot; the allocator gives the first serial after the last one
given, going from 65,535 to 1, that no live book holds. R160: the lift number allocator gives the first number after
the last one given, going from 255 to 1, that no lift holds. -/
def Obligations.SlotSerialAndLiftNumberAllocation : Prop :=
  ((∀ (slots : Vector (Option Book) Config.slotCount) (b : Book) (i : Fin Config.slotCount), slots[i] = none →
     (∀ j : Fin Config.slotCount, j < i → slots[j] ≠ none) → placeBook slots b = slots.set i (some b))
   ∧ ∀ t : BookTable,
     t.nextSerial ∉ t.serials ∧ 1 ≤ t.nextSerial ∧ t.nextSerial ≤ 65535
     ∧ ∃ k, t.nextSerial = (fun n => if 65535 ≤ n then 1 else n + 1)^[k + 1] t.lastSerial
         ∧ ∀ j < k, (fun n => if 65535 ≤ n then 1 else n + 1)^[j + 1] t.lastSerial ∈ t.serials)
  ∧ (∀ l : LiftBuilder, l.lifts.length ≤ 4 →
       l.nextNumber ∉ l.lifts.map Lift.number ∧ 1 ≤ l.nextNumber ∧ l.nextNumber ≤ 255
       ∧ ∃ k, l.nextNumber = (fun n => if 255 ≤ n then 1 else n + 1)^[k + 1] l.lastNumber
           ∧ ∀ j < k, (fun n => if 255 ≤ n then 1 else n + 1)^[j + 1] l.lastNumber ∈ l.lifts.map Lift.number)

/-- R33, R34: ANNOUNCE from GATHER. With 8 books queued it is refused and leaves the queue, the open book and the
seal timer; otherwise the open book is sealed, the new record stands in a free slot and at the tail of the queue,
carrying SPEC_RANGE exactly if a field lies outside its range, the seal timer runs, and the subject is the new
serial. R32: the open book is the tail of the announce queue while that book is ANNOUNCED, and there is none otherwise;
R27, R28: the live book of a serial is the one that stands in a slot under it (the lowest slot, where the model's state
holds a serial twice, which no run reaches). -/
def Obligations.AnnounceCreatesTheOpenBook : Prop :=
  (∀ (p : PortId) (jobKey : Word32) (cls : Byte) (hr h wr w cw : Word24) (cover : Word32) (s : State),
    s.stoppage.held = false → s.ports[p].role = .gather →
    let job : Job := ⟨jobKey, cls.toNat, hr.toNat, h.toNat, wr.toNat, w.toNat, cw.toNat⟩
    let u : State := match s.openBook with
      | some open_ => s.sealBook open_
      | none => s
    let n := s.books.nextSerial
    (8 ≤ s.books.announceQ.length →
      exec (.announce p jobKey cls hr h wr w cw cover) s = .next (s.finish p 0x20 ⟨.refusedFull, 0⟩))
    ∧ (s.books.announceQ.length < 8 → ∀ cause : Option RejectCause,
      (job.InRange → cause = none) → (¬ job.InRange → cause = some .specRange) →
      exec (.announce p jobKey cls hr h wr w cw cover) s = .next (({ u with books := { u.books with
        slots := placeBook u.books.slots
          { serial := n, state := .announced, job := some job, expectedCover := cover, samples := [],
            setPoints := none, warnings := ⟨false, false, false, false⟩, cause := cause, clamp := none,
            progress := none, admittedAt := none, suspect := false, observedCover := none, coverApplied := false,
            openTime := none, coolingDeadline := none, liftNumber := none }
        lastSerial := n
        announceQ := s.books.announceQ ++ [n]
        sealTimer := some (s.now + s.timers.sealIdle) } } : State).finish p 0x20 ⟨.ok, n⟩)))
  ∧ ∀ (s : State) (n : Nat),
      (s.openBook = some n ↔ s.books.announceQ.getLast? = some n ∧ ∃ b, s.findBook n = some b ∧ b.state = .announced)
      ∧ ∀ b, s.findBook n = some b ↔ ∃ i : Fin Config.slotCount, s.books.slots[i] = some b ∧ b.serial = n
          ∧ ∀ j : Fin Config.slotCount, j < i → ∀ c, s.books.slots[j] = some c → c.serial ≠ n

/-- R35: CALIPER from GATHER: a count of 0 or above 8, and a want of an open book, are refused and the samples lost;
otherwise each sample is brought to 99,999 at most, the open book keeps its 8 most recent, and the seal timer
restarts. -/
def Obligations.CaliperFeedsTheOpenBook : Prop :=
  ∀ (p : PortId) (samples : List Word24) (s : State), s.stoppage.held = false → s.ports[p].role = .gather →
    (samples.length = 0 ∨ 8 < samples.length →
      exec (.caliper p samples) s = .next (s.finish p 0x21 ⟨.refusedRange, 0⟩))
    ∧ (1 ≤ samples.length → samples.length ≤ 8 → s.openBook = none →
      exec (.caliper p samples) s = .next (s.finish p 0x21 ⟨.refusedUnknown, 0⟩))
    ∧ (1 ≤ samples.length → samples.length ≤ 8 → ∀ serial, s.openBook = some serial →
      let u := s.mapBook serial fun b =>
        let all := b.samples ++ samples.map fun x => min x.toNat 99999
        { b with samples := all.drop (all.length - 8) }
      exec (.caliper p samples) s = .next
        (({ u with books := { u.books with sealTimer := some (s.now + s.timers.sealIdle) } } : State).finish p 0x21
          ⟨if ∃ x ∈ samples, 99999 < x.toNat then .adjusted else .ok, serial⟩))

/-- R38: sealing changes the named book and the seal timer alone: the book is SEALED; one with a cause is not
computed; one without takes the set-point record and warnings, or the cause of the first stage that fails, computed
from its samples, its job, its class, the gauge, E and P as they stand. R36, R39: SEAL from GATHER seals the open
book, or is refused where there is none; the expiry of the seal timer that is due stops it and seals the open book. An
expiry named while the timer is stopped or not yet due changes nothing (entry 2). -/
def Obligations.SealingComputesOnce : Prop :=
  (∀ (serial : Nat) (s : State) (b : Book), s.findBook serial = some b →
     let t := s.sealBook serial
     t = { s with books := { s.books with slots := t.books.slots, sealTimer := none } }
     ∧ (∀ m, m ≠ serial → t.findBook m = s.findBook m)
     ∧ (b.cause ≠ none → t.findBook serial = some { b with state := .sealed })
     ∧ (b.cause = none → ∀ (job : Job) (k : Fin 8), b.job = some job → job.jobClass = k →
       (∀ sp w, computeSetPoints job b.samples s.setpoints.classes[k] s.setpoints.gauge
           s.clock.geometry.pitchCounts s.clock.geometry.pitchLength = .ok (sp, w) →
         t.findBook serial = some { b with state := .sealed, setPoints := some sp, warnings := w })
       ∧ (∀ cause, computeSetPoints job b.samples s.setpoints.classes[k] s.setpoints.gauge
           s.clock.geometry.pitchCounts s.clock.geometry.pitchLength = .error cause →
         t.findBook serial = some { b with state := .sealed, cause := some cause })))
  ∧ ((∀ (p : PortId) (s : State), s.stoppage.held = false → s.ports[p].role = .gather →
       (∀ serial, s.openBook = some serial →
         exec (.seal p) s = .next ((s.sealBook serial).finish p 0x22 ⟨.ok, serial⟩))
       ∧ (s.openBook = none → exec (.seal p) s = .next (s.finish p 0x22 ⟨.refusedUnknown, 0⟩)))
     ∧ ∀ s : State, s.stoppage.held = false →
       let u : State := { s with books := { s.books with sealTimer := none } }
       (∀ due, s.books.sealTimer = some due → due ≤ s.now →
         (∀ serial, s.openBook = some serial → exec .sealTimerExpiry s = .next (u.sealBook serial))
         ∧ (s.openBook = none → exec .sealTimerExpiry s = .next u))
       ∧ (∀ due, s.books.sealTimer = some due → s.now < due → exec .sealTimerExpiry s = .next s)
       ∧ (s.books.sealTimer = none → exec .sealTimerExpiry s = .next s))

/-- R41, R32: WITHDRAW from GATHER takes a book of the announce queue out of it and retires it as withdrawn, with no
reject entry; the open book's seal timer stops; SPACE is raised when the queue falls from 8 to 7. Any other serial
is refused. R42: REJECT BOOK gives OPERATOR to an ANNOUNCED, SEALED or IN_CLAMP book that has no cause, and its due
list entry's want becomes no; a cause already there stays; a later book, and a serial of no live book, are refused. -/
def Obligations.WithdrawAndRejectBook : Prop :=
  (∀ (p : PortId) (serial : Word16) (s : State), s.stoppage.held = false → s.ports[p].role = .gather →
     let n := serial.toNat
     let u : State := { s with books := { s.books with
       announceQ := s.books.announceQ.erase n
       sealTimer := if s.openBook = some n then none else s.books.sealTimer
       slots := s.books.slots.map fun slot => slot.filter fun b => b.serial != n
       withdrawn := s.books.withdrawn + 1 } }
     (n ∈ s.books.announceQ → s.books.announceQ.length = 8 →
       exec (.withdraw p serial) s = .next ((u.raise .space).finish p 0x23 ⟨.ok, n⟩))
     ∧ (n ∈ s.books.announceQ → s.books.announceQ.length ≠ 8 →
       exec (.withdraw p serial) s = .next (u.finish p 0x23 ⟨.ok, n⟩))
     ∧ (n ∉ s.books.announceQ → exec (.withdraw p serial) s = .next (s.finish p 0x23 ⟨.refusedUnknown, n⟩)))
  ∧ (∀ (p : PortId) (serial : Word16) (s : State), s.stoppage.held = false → s.ports[p].role ≠ .observer →
       (s.findBook serial.toNat = none →
         exec (.rejectBook p serial) s = .next (s.finish p 0x24 ⟨.refusedUnknown, serial.toNat⟩))
       ∧ ∀ b, s.findBook serial.toNat = some b →
         (b.state = .announced ∨ b.state = .sealed ∨ b.state = .inClamp →
           let u := s.mapBook serial.toNat fun b =>
             { b with cause := if b.cause = none then some .operator else b.cause }
           exec (.rejectBook p serial) s = .next (({ u with due := s.due.map fun e =>
             if e.serial = serial.toNat then { e with want := false } else e } : State).finish p 0x24
               ⟨.ok, serial.toNat⟩))
         ∧ (b.state = .cooling ∨ b.state = .ready ∨ b.state = .inLift ∨ b.state = .cutting →
           exec (.rejectBook p serial) s = .next (s.finish p 0x24 ⟨.refusedMode, serial.toNat⟩)))

/-- R43: no step changes a reject cause that a book carries: the record in a slot either leaves it or keeps its
serial and its cause. -/
def Obligations.ARejectCauseStays : Prop :=
  ∀ (s t : State), step s = .next t → ∀ (i : Fin Config.slotCount) (b b' : Book) (cause : RejectCause),
    s.books.slots[i] = some b → t.books.slots[i] = some b' → b.cause = some cause →
    b'.serial = b.serial ∧ b'.cause = some cause

/-- R48: an entry joins the reject list at its tail; a list of 16 first drops its oldest entry and sets the overrun
flag, and the model's count of entries gone from the head grows by the one dropped (entry 19); REJECT is raised on all
four ports. R46, R47, R51: retirement: after it the serial names no live book and no
other book is changed; a rejected or removed book leaves its entry by that append, REJECT and the overrun flag with it,
with its own cause or the way's, and adds 1 to the rejected counter; a done and a withdrawn book add 1 to their own
counter and leave no entry; every other block and every other field of the Book Table stays. -/
def Obligations.RetirementAndTheRejectList : Prop :=
  (∀ (e : RejectEntry) (s : State),
     let t := s.appendReject e
     (s.books.rejects.length < 16 → t.books.rejects = s.books.rejects ++ [e] ∧ t.books.overrun = s.books.overrun
       ∧ t.books.rejectsGone = s.books.rejectsGone)
     ∧ (s.books.rejects.length = 16 →
         t.books.rejects = s.books.rejects.tail ++ [e] ∧ t.books.rejects.length = 16 ∧ t.books.overrun = true
         ∧ t.books.rejectsGone = s.books.rejectsGone + 1)
     ∧ t = { s with
         books := { s.books with
           rejects := t.books.rejects, overrun := t.books.overrun, rejectsGone := t.books.rejectsGone }
         ports := t.ports }
     ∧ ∀ p : PortId, t.ports[p] = Port.raise s.now .reject s.ports[p])
  ∧ (∀ (serial : Nat) (place : Where) (cause : RejectCause) (s : State),
       (∀ b, s.findBook serial = some b →
         let t := s.retireRejected serial place cause
         let a := s.appendReject ⟨serial, (b.job.map Job.jobKey).getD 0, b.cause.getD cause, place⟩
         t.findBook serial = none ∧ (∀ m, m ≠ serial → t.findBook m = s.findBook m)
         ∧ t = { a with books := { a.books with rejected := s.books.rejected + 1, slots := t.books.slots } })
       ∧ (let t := s.retireDone serial
         t.findBook serial = none ∧ (∀ m, m ≠ serial → t.findBook m = s.findBook m)
         ∧ t = { s with books := { s.books with done := s.books.done + 1, slots := t.books.slots } })
       ∧ (let t := s.retireWithdrawn serial
         t.findBook serial = none ∧ (∀ m, m ≠ serial → t.findBook m = s.findBook m)
         ∧ t = { s with books := { s.books with withdrawn := s.books.withdrawn + 1, slots := t.books.slots } }))

/-- R50: TAKE REJECT on a port of any role. From GATHER, with the whole 8-byte entry clocked out, the oldest entry
leaves the list, and the overrun flag clears if that empties it; an empty list answers REFUSED_UNKNOWN, subject 0; an
early release leaves the list, result and subject as they were; another role answers REFUSED_ROLE once the whole entry
is out. The two moments of a frame apart (entry 6): the command byte snapshots the oldest entry, and an entry of zeros
for an empty list or another role; the release acts on that snapshot and the list as it then stands: an entry still
at the head is taken, one dropped meanwhile (entry 19) is REFUSED_UNKNOWN with its serial, and an empty snapshot, an
early release and another role end as above. A release with no TAKE REJECT in progress changes nothing. -/
def Obligations.TakeRejectTakesTheOldest : Prop :=
  ∀ (p : PortId) (n : Nat) (s : State), s.stoppage.held = false →
    let dropped : State := { s with ports := s.ports.set p { s.ports[p] with
      frame := .idle, collected := [], snapshot := none, taking := none } }
    let taken (e : RejectEntry) : State := ({ s with books := { s.books with
      rejects := s.books.rejects.tail, overrun := s.books.overrun && decide (s.books.rejects.tail ≠ [])
      rejectsGone := s.books.rejectsGone + 1 } } : State).finish p 0x0D ⟨.ok, e.serial⟩
    let begun (entry : Option RejectEntry) (bytes : List Byte) : State :=
      { s with ports := s.ports.set p { s.ports[p] with
        frame := .answering, collected := [0x0D], snapshot := some ⟨bytes, false⟩
        taking := some ⟨entry, s.books.rejectsGone⟩ } }
    (8 ≤ n → s.ports[p].role = .gather → ∀ e rest, s.books.rejects = e :: rest →
      exec (.takeReject p (.wholeFrame n)) s = .next (taken e))
    ∧ (8 ≤ n → s.ports[p].role = .gather → s.books.rejects = [] →
      exec (.takeReject p (.wholeFrame n)) s = .next (s.finish p 0x0D ⟨.refusedUnknown, 0⟩))
    ∧ (8 ≤ n → s.ports[p].role ≠ .gather →
      exec (.takeReject p (.wholeFrame n)) s = .next (s.finish p 0x0D ⟨.refusedRole, 0⟩))
    ∧ (n < 8 → exec (.takeReject p (.wholeFrame n)) s = .next dropped)
    ∧ (s.ports[p].role = .gather → ∀ e rest, s.books.rejects = e :: rest →
      exec (.takeReject p .commandByte) s = .next (begun (some e) (bytesOf 2 e.serial ++ bytesOf 4 e.jobKey.toNat
        ++ bytesOf 1 e.cause.code ++ bytesOf 1 e.place.code)))
    ∧ (s.ports[p].role ≠ .gather ∨ s.books.rejects = [] →
      exec (.takeReject p .commandByte) s = .next (begun none (List.replicate 8 0)))
    ∧ (s.ports[p].taking = none → exec (.takeReject p (.release n)) s = .next s)
    ∧ ∀ entry gone, s.ports[p].taking = some ⟨entry, gone⟩ →
      (n < 8 → exec (.takeReject p (.release n)) s = .next dropped)
      ∧ (8 ≤ n → s.ports[p].role ≠ .gather →
        exec (.takeReject p (.release n)) s = .next (s.finish p 0x0D ⟨.refusedRole, 0⟩))
      ∧ (8 ≤ n → s.ports[p].role = .gather → entry = none →
        exec (.takeReject p (.release n)) s = .next (s.finish p 0x0D ⟨.refusedUnknown, 0⟩))
      ∧ (8 ≤ n → s.ports[p].role = .gather → ∀ e, entry = some e →
        (s.books.rejectsGone = gone → exec (.takeReject p (.release n)) s = .next (taken e))
        ∧ (s.books.rejectsGone ≠ gone →
          exec (.takeReject p (.release n)) s = .next (s.finish p 0x0D ⟨.refusedUnknown, e.serial⟩)))

/-! ### Set-points -/

/-- R70: the four scores of a set-point record are the positions z − a, that plus S, and a hinge offset further out on
each side, each rounded to a multiple of 50 µm, remainders 25 to 49 up. R70, R71: they stand in order, within the reach
of the cover's edges, each at a multiple of 50 µm. R43 (code 8), R71: SCORE_REACH does not arise within the ranges of
R34 and R54. -/
def Obligations.ScoresStandInOrder : Prop :=
  (∀ (job : Job) (samples : List Nat) (c : JobClass) (g : GaugeCal) (e p : Nat) (r : SetPoints) (w : Warnings),
     c.InRange → computeSetPoints job samples c g e p = .ok (r, w) →
     (let rounded (x : Int) : Int := x - x % 50 + (if x % 50 < 25 then 0 else 50)
      let i1 : Int := (job.coverWidth / 2 : Nat) - ((r.spine + 1) / 2 : Nat)
      r.inner1 = rounded i1 ∧ r.inner2 = rounded (i1 + r.spine)
      ∧ r.outer1 = rounded (i1 - c.hingeOffset) ∧ r.outer2 = rounded (i1 + r.spine + c.hingeOffset))
     ∧ 10000 ≤ r.outer1 ∧ r.outer1 < r.inner1 ∧ r.inner1 < r.inner2 ∧ r.inner2 < r.outer2
     ∧ r.outer2 ≤ job.coverWidth - 10000
     ∧ 50 ∣ r.outer1 ∧ 50 ∣ r.inner1 ∧ 50 ∣ r.inner2 ∧ 50 ∣ r.outer2)
  ∧ (∀ (job : Job) (samples : List Nat) (c : JobClass) (g : GaugeCal) (e p : Nat),
       c.InRange → job.InRange → computeSetPoints job samples c g e p ≠ .error .scoreReach)

/-- R66 to R68, R72 to R76: every field of a set-point record lies within the range its stage states: the trims share
out the height trim, and each glue window ends within the E it was computed under. R62 and R65: a corrected sample, and
the caliper of a list of them: with four or more one smallest and one largest are set aside, and the mean of the rest is
rounded, a half up. R60, R63 to R69: the stages fail in their order, each with its own cause: NO_CALIPER, WEDGE,
CALIPER_RANGE, TRIM_MARGIN, COVER_SHORT, SCORE_REACH; and a book that fails at none has its record. R73, R74, R75: the
glue windows in counts, clipped to E with their warnings, and the warning of a capped cooling time. -/
def Obligations.SetPointsStayInTheirRanges : Prop :=
  (∀ (job : Job) (samples : List Nat) (c : JobClass) (g : GaugeCal) (e p : Nat) (r : SetPoints) (w : Warnings),
    c.InRange → job.InRange → 1024 ≤ e → 200000 ≤ p → p ≤ 1200000 → computeSetPoints job samples c g e p = .ok (r, w) →
    (1500 ≤ r.caliper ∧ r.caliper ≤ 62000) ∧ r.spine = r.caliper + c.glueAllow
    ∧ (1500 ≤ r.spine ∧ r.spine ≤ 63500) ∧ r.millDepth = c.millDepth
    ∧ r.headTrim + r.footTrim = job.rawHeight - job.height ∧ 1000 ≤ r.headTrim ∧ 10 ∣ r.headTrim
    ∧ r.headTrim ≤ r.footTrim ∧ r.footTrim ≤ r.headTrim + 19
    ∧ 1000 ≤ r.foreTrim ∧ r.foreTrim + c.millDepth + job.width = job.rawWidth
    ∧ r.nipGap = max 1000 (r.spine - c.nipSqueeze) ∧ (1000 ≤ r.nipGap ∧ r.nipGap ≤ 63500)
    ∧ (w.nipFloor = true ↔ r.spine < 1000 + c.nipSqueeze)
    ∧ r.spineWindow.start + r.spineWindow.length ≤ e ∧ 1 ≤ r.spineWindow.length
    ∧ (∀ side, r.sideWindow = some side → side.start + side.length ≤ e ∧ 1 ≤ side.length)
    ∧ (r.sideWindow.isSome = c.sideUsed) ∧ r.windowE = e
    ∧ r.coolingTime = min 600000 (c.coolBase + r.spine * c.coolPerMm / 1000)
    ∧ (5000 ≤ r.coolingTime ∧ r.coolingTime ≤ 600000))
  ∧ (∀ (g : GaugeCal) (x : Nat),
       let term : Int := if g.shift = 0 then 0 else (x / 2 ^ g.shift : Nat)
       let v : Int := match g.sign with
         | .add => x + term + g.offset
         | .subtract => x - term + g.offset
       correctSample g x = (max 0 (min 99999 v)).toNat)
  ∧ (∀ xs used : List Nat, xs ≠ [] → (xs.length < 4 → used = xs) →
       (4 ≤ xs.length → ∃ lo hi, xs.Perm (lo :: hi :: used) ∧ (∀ x ∈ xs, lo ≤ x) ∧ ∀ x ∈ xs, x ≤ hi) →
       caliperOf xs = (used.sum + used.length / 2) / used.length)
  ∧ (∀ (job : Job) (samples : List Nat) (c : JobClass) (g : GaugeCal) (e p : Nat),
       let xs := samples.map (correctSample g)
       let result := computeSetPoints job samples c g e p
       let spine := caliperOf xs + c.glueAllow
       let wedge : Prop := ∃ x ∈ xs, ∃ y ∈ xs, y + g.spreadLimit < x
       let range : Prop := caliperOf xs < 1500 ∨ 62000 < caliperOf xs
       let margin : Prop :=
         job.rawWidth < 1000 + c.millDepth + job.width ∨ job.rawHeight < 2000 + job.height
       let short : Prop := job.coverWidth < 2 * job.width + spine + 4000
       let i1 : Int := (job.coverWidth / 2 : Nat) - ((spine + 1) / 2 : Nat)
       let rounded (x : Int) : Int := x - x % 50 + (if x % 50 < 25 then 0 else 50)
       let reach : Prop := rounded (i1 - c.hingeOffset) < 10000
         ∨ (job.coverWidth : Int) - 10000 < rounded (i1 + spine + c.hingeOffset)
       (samples = [] → result = .error .noCaliper)
       ∧ (samples ≠ [] →
         (wedge → result = .error .wedge)
         ∧ (¬ wedge → range → result = .error .caliperRange)
         ∧ (¬ wedge → ¬ range → margin → result = .error .trimMargin)
         ∧ (¬ wedge → ¬ range → ¬ margin → short → result = .error .coverShort)
         ∧ (¬ wedge → ¬ range → ¬ margin → ¬ short → reach → result = .error .scoreReach)
         ∧ (¬ wedge → ¬ range → ¬ margin → ¬ short → ¬ reach →
           ∃ r w, result = .ok (r, w) ∧ r.caliper = caliperOf xs)))
  ∧ ∀ (job : Job) (samples : List Nat) (c : JobClass) (g : GaugeCal) (e p : Nat) (r : SetPoints) (w : Warnings),
      computeSetPoints job samples c g e p = .ok (r, w) →
      let counts (length : Nat) : Nat := (length * e + p / 2) / p
      let clipped (margin : Nat) : GlueWindow :=
        ⟨counts margin, min (counts (job.rawHeight - 2 * margin)) (e - counts margin)⟩
      let long (margin : Nat) : Prop := e < counts margin + counts (job.rawHeight - 2 * margin)
      (counts c.spineMargin ≤ e → r.spineWindow = clipped c.spineMargin)
      ∧ (w.glueClipped = true ↔ long c.spineMargin)
      ∧ (c.sideUsed = false → r.sideWindow = none ∧ w.sideClipped = false)
      ∧ (c.sideUsed = true → (counts c.sideMargin ≤ e → r.sideWindow = some (clipped c.sideMargin))
        ∧ (w.sideClipped = true ↔ long c.sideMargin))
      ∧ (w.coolCapped = true ↔ 600000 < c.coolBase + r.spine * c.coolPerMm / 1000)

/-! ### The carousel -/

/-- R82, R81: LOCK CLAMP and UNLOCK CLAMP, from every role but OBSERVER and in every line mode, put a clamp number
of 0..N−1 into the lock set or take it out, changing no other lock; N or above is refused. R182, R183: RESOLVE CLAMP
from BINDER: outside SETUP, for a clamp of N or above, for a decision that is neither, and for an empty clamp it is
refused, in that order; KEEP takes the suspect mark off the clamp's book; REMOVE retires the book as REMOVED with
where Recovery, takes it off the due list and empties its clamp. R100: LOCK and UNLOCK CLAMP from OBSERVER are refused
with the clamp as subject. The KEEP row's decision byte is entry 7's. -/
def Obligations.ClampsAreLockedAndResolved : Prop :=
  (∀ (p : PortId) (clamp : Byte) (s : State), s.stoppage.held = false → s.clock.geometry.clampCount ≤ 32 →
     (s.ports[p].role = .observer →
       exec (.lockClamp p clamp) s = .next (s.finish p 0x60 ⟨.refusedRole, clamp.toNat⟩)
       ∧ exec (.unlockClamp p clamp) s = .next (s.finish p 0x61 ⟨.refusedRole, clamp.toNat⟩))
     ∧ (s.ports[p].role ≠ .observer → s.clock.geometry.clampCount ≤ clamp.toNat →
       exec (.lockClamp p clamp) s = .next (s.finish p 0x60 ⟨.refusedRange, clamp.toNat⟩)
       ∧ exec (.unlockClamp p clamp) s = .next (s.finish p 0x61 ⟨.refusedRange, clamp.toNat⟩))
     ∧ (s.ports[p].role ≠ .observer → clamp.toNat < s.clock.geometry.clampCount →
       ∃ lock unlock : Carousel,
         exec (.lockClamp p clamp) s
           = .next (({ s with carousel := lock } : State).finish p 0x60 ⟨.ok, clamp.toNat⟩)
         ∧ exec (.unlockClamp p clamp) s
           = .next (({ s with carousel := unlock } : State).finish p 0x61 ⟨.ok, clamp.toNat⟩)
         ∧ lock.clampMap = s.carousel.clampMap ∧ lock.presence = s.carousel.presence
         ∧ unlock.clampMap = s.carousel.clampMap ∧ unlock.presence = s.carousel.presence
         ∧ (∀ c, lock.locked c = true ↔ c = clamp.toNat ∨ s.carousel.locked c = true)
         ∧ ∀ c, unlock.locked c = true ↔ c ≠ clamp.toNat ∧ s.carousel.locked c = true))
  ∧ (∀ (p : PortId) (clamp decision : Byte) (s : State), s.stoppage.held = false → s.ports[p].role = .binder →
       let c := clamp.toNat
       let keep := exec (.resolveClampKeep p clamp decision) s
       let remove := exec (.resolveClampRemove p clamp) s
       let refused (r : Result) : Answer := .next (s.finish p 0x36 ⟨r, c⟩)
       (s.clock.mode ≠ .setup → keep = refused .refusedMode ∧ remove = refused .refusedMode)
       ∧ (s.clock.mode = .setup → s.clock.geometry.clampCount ≤ c →
         keep = refused .refusedRange ∧ remove = refused .refusedRange)
       ∧ (s.clock.mode = .setup → 2 ≤ decision.toNat → keep = refused .refusedRange)
       ∧ (s.clock.mode = .setup → c < s.clock.geometry.clampCount → s.carousel.bookIn c = none →
         (decision = 0 → keep = refused .refusedUnknown) ∧ remove = refused .refusedUnknown)
       ∧ (s.clock.mode = .setup → c < s.clock.geometry.clampCount → ∀ n, s.carousel.bookIn c = some n →
         (decision = 0 → keep = .next ((s.mapBook n fun b => { b with suspect := false }).finish p 0x36 ⟨.ok, c⟩))
         ∧ remove = .next (({ ({ s with due := s.due.filter fun e => e.serial != n } : State).retireRejected n
             .recovery .removed with
           carousel := { s.carousel with clampMap := s.carousel.clampMap.set c none } } : State).finish p 0x36
             ⟨.ok, c⟩)))

/-- R87: when exec takes a command, a clamp that was empty holds a book after it only if the command is a FORWARD COUNT
in RUN and the clamp the one at the infeed, unlocked, with the presence latch set, occupancy below D and glue ready.
That occupancy is below D already before the count is the model's choice (entry 28): where Infeed and Release are due
at one count, R91 lets the retirement at Release be taken first, which would admit a block although occupancy stood at
D before the count. -/
def Obligations.AdmissionOnlyUnderItsConditions : Prop :=
  ∀ (i : Instr) (s t : State) (clamp : Nat), exec i s = .next t →
    s.carousel.bookIn clamp = none → t.carousel.bookIn clamp ≠ none →
    i = .forwardCount ∧ s.clock.mode = .run ∧ s.carousel.locked clamp = false ∧ s.carousel.presence = true
    ∧ s.occupancy < s.clock.geometry.capacity
    ∧ s.glue.spine.state = .ready ∧ (s.glue.side.state = .ready ∨ s.glue.side.enabled = false)
    ∧ clamp = t.clock.clampAt .infeed

/-- R86, R87: when the conditions of an admission hold; R90: an Infeed event without them changes nothing. R40, R88,
R89, with a queue: its head is admitted, sealed first if it is the open book, and SPACE is raised at the fall from 8 to
7 (R32). With an empty queue: the lowest free slot takes a new record under the next serial, as R30 gives it: no job, no
samples, no set-points, cause UNANNOUNCED. Either way the book is IN_CLAMP, with the clamp, progress Infeed and the
pitch counter; the latch clears, the admitted counter grows, the book joins the tail of the due list with want yes
exactly if it has no cause, CLOSE is begun, DUE is raised, and every other book and block stays. -/
def Obligations.AdmissionTakesTheHead : Prop :=
  ∀ (clamp : Nat) (s : State),
    let t := s.infeedEvent clamp
    (s.admissionHolds clamp = true ↔ s.clock.mode = .run ∧ s.carousel.clampMap[clamp]? = some none
      ∧ s.carousel.locked clamp = false ∧ s.carousel.presence = true ∧ s.occupancy < s.clock.geometry.capacity
      ∧ s.glue.spine.state = .ready ∧ (s.glue.side.state = .ready ∨ s.glue.side.enabled = false))
    ∧ (s.admissionHolds clamp = false → t = s)
    ∧ (s.admissionHolds clamp = true →
      let admitted (b : Book) : Book := { b with
        state := .inClamp, clamp := some clamp, progress := some .infeed, admittedAt := some s.clock.pitchCounter }
      (∀ head rest b, s.books.announceQ = head :: rest →
        (if s.openBook = some head then s.sealBook head else s).findBook head = some b →
        t.findBook head = some (admitted b) ∧ (∀ m, m ≠ head → t.findBook m = s.findBook m)
        ∧ t.books = { s.books with
            slots := t.books.slots, announceQ := rest, admitted := s.books.admitted + 1
            sealTimer := if s.openBook = some head then none else s.books.sealTimer }
        ∧ t.due = s.due ++ [⟨head, decide (b.cause = none), false⟩]
        ∧ t.carousel.bookIn clamp = some head
        ∧ ∀ p : PortId, t.ports[p] = Port.raise s.now .due
            (if s.books.announceQ.length = 8 then Port.raise s.now .space s.ports[p] else s.ports[p]))
      ∧ (s.books.announceQ = [] → ∀ i : Fin Config.slotCount, s.books.slots[i] = none →
        (∀ j : Fin Config.slotCount, j < i → s.books.slots[j] ≠ none) →
        let n := s.books.nextSerial
        t.books = { s.books with
            slots := s.books.slots.set i (some (admitted
              { serial := n, state := .inClamp, job := none, expectedCover := 0, samples := [], setPoints := none,
                warnings := ⟨false, false, false, false⟩, cause := some .unannounced, clamp := none,
                progress := none, admittedAt := none, suspect := false, observedCover := none, coverApplied := false,
                openTime := none, coolingDeadline := none, liftNumber := none }))
            lastSerial := n, admitted := s.books.admitted + 1 }
        ∧ t.due = s.due ++ [⟨n, false, false⟩] ∧ t.carousel.bookIn clamp = some n
        ∧ ∀ p : PortId, t.ports[p] = Port.raise s.now .due s.ports[p])
      ∧ (∀ c, c ≠ clamp → t.carousel.bookIn c = s.carousel.bookIn c)
      ∧ t.carousel.presence = false ∧ t.carousel.locks = s.carousel.locks
      ∧ t.cams = (s.beginFixed Channel.close clamp).cams
      ∧ t.clock = s.clock ∧ t.glue = s.glue ∧ t.delivery = s.delivery ∧ t.lifting = s.lifting
      ∧ t.stoppage = s.stoppage ∧ t.setpoints = s.setpoints ∧ t.timers = s.timers ∧ t.now = s.now
      ∧ t.wires = s.wires ∧ t.arriving = s.arriving ∧ t.pending = s.pending)

/-- R92, R93, R94: a station event other than Infeed changes nothing but its mark for an empty clamp and for a book
whose progress is at or beyond the station. For a book it concerns, the stations missed are taken first, in order,
and then the station acts on the book as it then stands. -/
def Obligations.StationEventsConcernBooksBehindThem : Prop :=
  ∀ (st : Station) (s : State), st ≠ .infeed →
    let clamp := s.clock.clampAt st
    let u : State := { s with clock := { s.clock with fired := s.clock.fired.set st.index true } }
    (s.carousel.bookIn clamp = none → s.fireStation st = u)
    ∧ ∀ n b, s.carousel.bookIn clamp = some n → s.findBook n = some b →
      (st.index.val ≤ progressIndex b.progress → s.fireStation st = u)
      ∧ (progressIndex b.progress < st.index.val → s.fireStation st =
          ((Station.all.filter fun m => progressIndex b.progress < m.index.val && m.index.val < st.index.val).foldl
            (State.missStation n) u).actAt st clamp n)

/-- R94: what a missed station costs a book, each cause only on a book that has none: SpineGlue and (with a side
window and the SIDE pot enabled) SideGlue give GLUE_INTERRUPTED, Cover takes the book off the due list and gives
COVER_LATE, Nip cancels the open time and gives OPEN_TIME to a covered book; Mill gives nothing; no cam fires. R43
and R102: setting a cause changes only a book without one, and the want of its due list entry. -/
def Obligations.MissedStationsCostTheBook : Prop :=
  (∀ (n : Nat) (s : State) (b : Book), s.findBook n = some b →
     s.missStation n .mill = s
     ∧ s.missStation n .spineGlue = s.setCause n .glueInterrupted
     ∧ (((b.setPoints.bind SetPoints.sideWindow).isSome = true ∧ s.glue.side.enabled = true) →
         s.missStation n .sideGlue = s.setCause n .glueInterrupted)
     ∧ (¬ ((b.setPoints.bind SetPoints.sideWindow).isSome = true ∧ s.glue.side.enabled = true) →
         s.missStation n .sideGlue = s)
     ∧ s.missStation n .cover
         = ({ s with due := s.due.filter fun e => e.serial != n } : State).setCause n .coverLate
     ∧ (b.coverApplied = true → s.missStation n .nip
         = (s.mapBook n fun b => { b with openTime := none }).setCause n .openTime)
     ∧ (b.coverApplied = false → s.missStation n .nip = s.mapBook n fun b => { b with openTime := none })
     ∧ ∀ m, (s.missStation n m).cams = s.cams)
  ∧ (∀ (n : Nat) (cause : RejectCause) (s : State),
       let t := s.setCause n cause
       (∀ b, s.findBook n = some b →
         t.findBook n = some { b with cause := if b.cause = none then some cause else b.cause })
       ∧ (∀ m, m ≠ n → t.findBook m = s.findBook m)
       ∧ t.due = (s.due.map fun e => if e.serial = n then { e with want := false } else e)
       ∧ t = { s with books := { s.books with slots := t.books.slots }, due := t.due })

/-- R93, R125, R126, R128: Mill, SpineGlue, SideGlue and Nip on a clamped book: its progress becomes the station;
MILL is begun for every book; SPINE_GLUE and the open time for a book without a cause while SPINE is READY, else
GLUE_TEMP; SIDE_GLUE for one with a side window while SIDE is enabled and READY, GLUE_TEMP if enabled and not READY;
NIP for a covered book without a cause, its open time cancelled. A book with a cause passes each with its progress
alone. -/
def Obligations.WorkingStationsActByCauseAndPot : Prop :=
  ∀ (clamp n : Nat) (s : State) (b : Book), s.findBook n = some b →
    let at_ (st : Station) : State := s.mapBook n fun b => { b with progress := some st }
    s.actAt .mill clamp n = (at_ .mill).beginFixed 1 clamp
    ∧ (b.cause ≠ none → s.actAt .spineGlue clamp n = at_ .spineGlue ∧ s.actAt .sideGlue clamp n = at_ .sideGlue)
    ∧ (b.cause = none → ∀ r, b.setPoints = some r →
      (s.glue.spine.state = .ready → s.actAt .spineGlue clamp n =
        ((at_ .spineGlue).beginGlue 2 clamp r.windowE r.spineWindow).mapBook n fun b =>
          { b with openTime := some ⟨s.now, s.now + s.timers.openLimit⟩ })
      ∧ (s.glue.spine.state ≠ .ready →
        s.actAt .spineGlue clamp n = (at_ .spineGlue).setCause n .glueTemp)
      ∧ (r.sideWindow = none ∨ s.glue.side.enabled = false → s.actAt .sideGlue clamp n = at_ .sideGlue)
      ∧ (∀ w, r.sideWindow = some w → s.glue.side.enabled = true →
        (s.glue.side.state = .ready →
          s.actAt .sideGlue clamp n = (at_ .sideGlue).beginGlue 3 clamp r.windowE w)
        ∧ (s.glue.side.state ≠ .ready →
          s.actAt .sideGlue clamp n = (at_ .sideGlue).setCause n .glueTemp)))
    ∧ (let u := (at_ .nip).mapBook n fun b => { b with openTime := none }
      (b.coverApplied = true → b.cause = none → s.actAt .nip clamp n = u.beginFixed 5 clamp)
      ∧ (b.coverApplied = false ∨ b.cause ≠ none → s.actAt .nip clamp n = u))

/-- R107, R108, R109: COVER SEEN from COVER. The first report for a book on the due list is recorded, in the book
and in the entry; a book without a cause whose expected cover is another takes COVER_MISMATCH; the result is OK only
for a book without a cause whose expected cover is 0 or the same. A second report is a DUPLICATE and changes
nothing. A serial off the due list is TOO_LATE for a book past the announce queue and REFUSED_UNKNOWN otherwise; so is
that of a book that retired in the Release event that took its missed Cover, where R111 has TOO_LATE (entry 29).
R110: the Cover event of a clamped book: its progress becomes Cover and its entry leaves the due list; without a
cause it is covered, and COVER_APPLY begun, if a report was received, and takes COVER_LATE if none was; with a cause
nothing further. -/
def Obligations.CoverReportsAndTheCoverDecision : Prop :=
  (∀ (p : PortId) (serial : Word16) (coverId : Word32) (s : State), s.stoppage.held = false →
     s.ports[p].role = .cover →
     let n := serial.toNat
     let answered (u : State) (r : Result) : Answer := .next (u.finish p 0x40 ⟨r, n⟩)
     let answer := exec (.coverSeen p serial coverId) s
     (∀ e b, s.due.find? (fun e => e.serial == n) = some e → s.findBook n = some b →
       let u : State := { s.mapBook n (fun b => { b with observedCover := some coverId }) with
         due := s.due.map fun e => if e.serial = n then { e with received := true } else e }
       (e.received = true → answer = answered s .duplicate)
       ∧ (e.received = false → b.cause ≠ none → answer = answered u .notApplied)
       ∧ (e.received = false → b.cause = none → b.expectedCover = 0 ∨ b.expectedCover = coverId →
         answer = answered u .ok)
       ∧ (e.received = false → b.cause = none → b.expectedCover ≠ 0 → b.expectedCover ≠ coverId →
         answer = answered (u.setCause n .coverMismatch) .notApplied))
     ∧ (s.due.find? (fun e => e.serial == n) = none →
       (s.findBook n = none → answer = answered s .refusedUnknown)
       ∧ ∀ b, s.findBook n = some b →
         (b.state = .announced ∨ b.state = .sealed → answer = answered s .refusedUnknown)
         ∧ (b.state ≠ .announced → b.state ≠ .sealed → answer = answered s .tooLate)))
  ∧ (∀ (clamp n : Nat) (s : State) (b : Book), s.findBook n = some b →
       let u : State := { s.mapBook n (fun b => { b with progress := some .cover }) with
         due := s.due.filter fun e => e.serial != n }
       (b.cause ≠ none → s.actAt .cover clamp n = u)
       ∧ (b.cause = none → ∀ e, s.due.find? (fun e => e.serial == n) = some e →
         (e.received = true → s.actAt .cover clamp n
           = (u.mapBook n fun b => { b with coverApplied := true }).beginFixed 4 clamp)
         ∧ (e.received = false → s.actAt .cover clamp n = u.setCause n .coverLate)))

/-- R95, R96, R97, R147: the Release event of a clamped book: OPEN is begun. Without a cause the book is COOLING, with
no clamp, at the tail of the delivery queue until now plus its cooling time; with a cause REJECT is begun too and the
book retires with where Release; then the clamp's entry is emptied, in RUNOUT as in every other mode. R22, R97: emptying
a clamp empties its entry and keeps every lock; in RUNOUT the emptying that leaves every entry empty takes the line to
SETUP, with its windows ended, its standstill timer stopped and MODE raised, and in every other mode it changes nothing
else. -/
def Obligations.ReleaseByCause : Prop :=
  (∀ (clamp n : Nat) (s : State) (b : Book), s.findBook n = some b →
     (b.cause = none → ∀ r, b.setPoints = some r →
       let u := (s.beginFixed 6 clamp).mapBook n fun b =>
         { b with state := .cooling, clamp := none, coolingDeadline := some (s.now + r.coolingTime) }
       let delivered : State := { u with delivery := s.delivery ++ [n] }
       (s.clock.mode ≠ .runout → s.actAt .release clamp n = { delivered with
         carousel := { s.carousel with clampMap := s.carousel.clampMap.set clamp none } })
       ∧ (s.clock.mode = .runout → s.actAt .release clamp n = delivered.emptyClamp clamp))
     ∧ (∀ cause, b.cause = some cause →
       let u := ((s.beginFixed 6 clamp).beginFixed 7 clamp).retireRejected n .release cause
       (s.clock.mode ≠ .runout → s.actAt .release clamp n = { u with
         carousel := { s.carousel with clampMap := s.carousel.clampMap.set clamp none } })
       ∧ (s.clock.mode = .runout → s.actAt .release clamp n = u.emptyClamp clamp)))
  ∧ (∀ (clamp : Nat) (s : State),
       let map := s.carousel.clampMap.set clamp none
       let u : State := { s with carousel := { s.carousel with clampMap := map } }
       (s.clock.mode = .runout → (∀ entry ∈ map, entry = none) →
         s.emptyClamp clamp = ({ u with
           clock := { s.clock with mode := .setup, standstillTimer := none }
           cams := s.cams.map (fun c => { c with window := none })
           stoppage := { s.stoppage with lampA := ⟨false, none⟩, lampB := ⟨true, none⟩ } } : State).raise .mode)
       ∧ (s.clock.mode ≠ .runout ∨ (∃ entry ∈ map, entry ≠ none) → s.emptyClamp clamp = u))

/-! ### The pitch clock -/

/-- R1, R11: a FORWARD COUNT in HALTED is discarded; with lag standing it takes 1 off the lag; without lag it moves the
high-water mark by one. The standstill timer restarts in RUN and RUNOUT. Shown here for an advance at which no station
fires and no limit is reached: every cam window's travel grows by 1, a window whose travel reaches start plus length
ends (R137), the travel of HOMING and of a STANDSTILL hold grows (R14, R12), and nothing else changes. R1: of the pair
(ENC_A, ENC_B), a change in which A leads B is a forward count, one in which B leads A a reverse count, and a change of
both at once, as no change at all, is no count (the pair is outside State, entry 18). -/
def Obligations.ForwardCountMovesTheMark : Prop :=
  (∀ s : State, s.stoppage.held = false →
    (s.clock.mode = .halted → exec .forwardCount s = .next s)
    ∧ (s.clock.mode ≠ .halted → 0 < s.clock.lag → exec .forwardCount s = .next
        { s with clock := { s.clock with lag := s.clock.lag - 1, standstillTimer := s.timerAfterCount } })
    ∧ (s.clock.mode ≠ .halted → s.clock.lag = 0 → s.clock.phase + 1 < s.clock.geometry.pitchCounts →
      s.clock.pitchesSinceHome ≤ s.clock.geometry.clampCount + 1 →
      (s.clock.mode.stationsFire = true → s.onlyStationDue (s.clock.phase + 1) none) →
      (s.clock.mode = .homing →
        s.clock.homingTravel < (s.clock.geometry.clampCount + 2) * s.clock.geometry.pitchCounts) →
      (∀ ret, s.clock.mode = .hold .standstill ret → s.clock.standstillTravel + 1 < 16) →
      exec .forwardCount s = .next { s with
        clock := { s.clock with
          phase := s.clock.phase + 1
          standstillTimer := s.timerAfterCount
          homingTravel := if s.clock.mode = .homing then s.clock.homingTravel + 1 else s.clock.homingTravel
          standstillTravel := match s.clock.mode with
            | .hold .standstill _ => s.clock.standstillTravel + 1
            | _ => s.clock.standstillTravel }
        cams := s.cams.map fun c => { c with window := match c.window with
          | none => none
          | some w => if w.travel + 1 < w.start + w.length then some { w with travel := w.travel + 1 } else none } }))
  ∧ ∀ a b a' b' : Bool,
      let change := ((a, b), (a', b'))
      let forward := [((false, false), (true, false)), ((true, false), (true, true)), ((true, true), (false, true)),
        ((false, true), (false, false))]
      let reverse := forward.map Prod.swap
      (change ∈ forward → quadratureCount a b a' b' = some .forwardCount)
      ∧ (change ∈ reverse → quadratureCount a b a' b' = some .reverseCount)
      ∧ (change ∉ forward → change ∉ reverse → quadratureCount a b a' b' = none)

/-- R1, R2, R9, R10, R12, R14, R18: a FORWARD COUNT without lag, at any count of a pitch and at the pitch wrap
(`State.marked`: the phase or the wrap, k, the pitch counter, the marks, the pitches since home, the windows' travel).
In SETUP it is the count alone; in HOMING its travel grows. In RUN, HOLD and RUNOUT every station due fires, none, one
or several, a station of phase 0 at the wrap for the new k; a STANDSTILL hold's travel grows; at N + 2 pitches since
home HOME_MISSING halts the line before a station fires. That several stations due at one count are taken in the
stations' order is the model's choice (entry 28), that a halt at the wrap comes before them entry 9's. R9, R10: a
station that fires sets its own mark and acts for the clamp (k − d) mod N, Infeed by the admission rule. -/
def Obligations.StationsFireAndPitchesWrap : Prop :=
  (∀ s : State, s.stoppage.held = false → s.clock.lag = 0 →
     let since := s.marked.clock.pitchesSinceHome
     (s.clock.mode = .setup → exec .forwardCount s = .next s.marked)
     ∧ (s.clock.mode = .homing →
       s.clock.homingTravel < (s.clock.geometry.clampCount + 2) * s.clock.geometry.pitchCounts →
       exec .forwardCount s = .next { s.marked with
         clock := { s.marked.clock with homingTravel := s.clock.homingTravel + 1 } })
     ∧ (since ≤ s.clock.geometry.clampCount + 1 →
       (s.clock.mode = .run ∨ s.clock.mode = .runout ∨ (∃ ret, s.clock.mode = .hold .commanded ret) →
         exec .forwardCount s = .next s.marked.fireDue)
       ∧ (∀ ret, s.clock.mode = .hold .standstill ret → s.clock.standstillTravel + 1 < 16 →
         exec .forwardCount s = .next { s.marked.fireDue with
           clock := { s.marked.fireDue.clock with standstillTravel := s.clock.standstillTravel + 1 } }))
     ∧ (s.clock.mode.stationsFire = true → s.clock.geometry.clampCount + 1 < since →
       exec .forwardCount s = .next (s.marked.enterHalted .homeMissing)))
  ∧ (∀ (s : State) (st : Station),
       (s.onlyStationDue s.clock.phase (some st) → s.fireDue = s.fireStation st)
       ∧ (s.onlyStationDue s.clock.phase none → s.fireDue = s)
       ∧ (s.fireStation st).clock.fired = s.clock.fired.set st.index true
       ∧ (0 < s.clock.geometry.clampCount → (s.clock.clampAt st : Int)
         = ((s.clock.clampIndex : Int) - (s.clock.stations[st.index].offset : Int)) % s.clock.geometry.clampCount)
       ∧ s.fireStation .infeed = ({ s with clock := { s.clock with fired := s.clock.fired.set 0 true } } :
           State).infeedEvent (s.clock.clampAt .infeed))

/-- R1, R3: a REVERSE COUNT in HALTED is discarded; below the reverse tolerance it adds 1 to the lag; at the
tolerance the lag stays, SETUP takes it as no fault, and every started mode halts with REVERSE. The high-water mark
never moves. ABOVE the tolerance, where the spec states no lag, the lag is a free value (entry 10) and the rest is
as at it. -/
def Obligations.ReverseCountRaisesTheLag : Prop :=
  ∀ s : State, s.stoppage.held = false →
    let counted (lag : Nat) : State :=
      { s with clock := { s.clock with lag := lag, standstillTimer := s.timerAfterCount } }
    let tol := s.clock.geometry.reverseTolerance
    let free := Config.lagPastTolerance s.clock.lag tol
    (s.clock.mode = .halted → exec .reverseCount s = .next s)
    ∧ (s.clock.mode ≠ .halted → s.clock.lag < tol → exec .reverseCount s = .next (counted (s.clock.lag + 1)))
    ∧ (s.clock.mode = .setup → s.clock.lag = tol → exec .reverseCount s = .next (counted tol))
    ∧ (s.clock.mode.started = true → s.clock.lag = tol →
        exec .reverseCount s = .next ((counted tol).enterHalted .reverse))
    ∧ (s.clock.mode = .setup → tol < s.clock.lag → exec .reverseCount s = .next (counted free))
    ∧ (s.clock.mode.started = true → tol < s.clock.lag →
        exec .reverseCount s = .next ((counted free).enterHalted .reverse))

/-- R12, R16, R18: the limits on travel. Taken by FORWARD COUNT at the count that reaches them, they leave nothing for
the events of their own name, which act in a state that stands at the limit and change nothing in every other (entry 8):
HOMING past (N + 2) × E counts and a started line past N + 1 pitches since home halt with HOME_MISSING; a STANDSTILL
hold of 16 counts returns, after the stations of that count (entry 9). R12, R21, R22: a return to RUN, or to RUNOUT with
a clamp occupied, starts the standstill timer; a return to RUNOUT with every clamp empty is a return to SETUP with its
windows ended; MODE is raised. -/
def Obligations.TravelLimitsAct : Prop :=
  ∀ s : State, s.stoppage.held = false →
    let g := s.clock.geometry
    let limit := (g.clampCount + 2) * g.pitchCounts
    (s.clock.mode = .homing → limit < s.clock.homingTravel →
      exec .homingTravelLimit s = .next (s.enterHalted .homeMissing))
    ∧ (s.clock.mode ≠ .homing ∨ s.clock.homingTravel ≤ limit → exec .homingTravelLimit s = .next s)
    ∧ (s.clock.mode.stationsFire = true → g.clampCount + 1 < s.clock.pitchesSinceHome →
      exec .pitchesSinceHomeLimit s = .next (s.enterHalted .homeMissing))
    ∧ (s.clock.mode.stationsFire = false ∨ s.clock.pitchesSinceHome ≤ g.clampCount + 1 →
      exec .pitchesSinceHomeLimit s = .next s)
    ∧ (∀ ret, s.clock.mode = .hold .standstill ret → 16 ≤ s.clock.standstillTravel →
      exec .standstillReturn s = .next (s.returnFromHold ret))
    ∧ ((∀ ret, s.clock.mode ≠ .hold .standstill ret) ∨ s.clock.standstillTravel < 16 →
      exec .standstillReturn s = .next s)
    ∧ (s.clock.mode = .homing → s.clock.lag = 0 → s.clock.homingTravel = limit →
      exec .forwardCount s = .next (({ s.marked with
        clock := { s.marked.clock with homingTravel := limit + 1 } } : State).enterHalted .homeMissing))
    ∧ (∀ ret, s.clock.mode = .hold .standstill ret → s.clock.lag = 0 →
      s.marked.clock.pitchesSinceHome ≤ g.clampCount + 1 → s.clock.standstillTravel = 15 →
      exec .forwardCount s = .next (({ s.marked.fireDue with
        clock := { s.marked.fireDue.clock with standstillTravel := 16 } } : State).returnFromHold ret))
    ∧ (let started (mode : LineMode) (a b : Lamp) : State := ({ s with
        clock := { s.clock with mode := mode, standstillTimer := some (s.now + s.timers.standstill) }
        stoppage := { s.stoppage with lampA := a, lampB := b } } : State).raise .mode
      s.returnFromHold .run = started .run ⟨true, none⟩ ⟨false, none⟩
      ∧ ((∃ entry ∈ s.carousel.clampMap, entry ≠ none) →
        s.returnFromHold .runout = started .runout ⟨true, some (s.now + 500)⟩ ⟨true, none⟩)
      ∧ ((∀ entry ∈ s.carousel.clampMap, entry = none) → s.returnFromHold .runout = ({ s with
        clock := { s.clock with mode := .setup, standstillTimer := none }
        cams := s.cams.map fun c => { c with window := none }
        stoppage := { s.stoppage with lampA := ⟨false, none⟩, lampB := ⟨true, none⟩ } } : State).raise .mode))

/-- R11, R131: the standstill timer's expiry in RUN or RUNOUT enters HOLD of kind STANDSTILL with that mode as the
return mode: the timer stops, the standstill travel is 0, the glue windows in progress are cut, MODE is raised, the
lamps take HOLD's pattern; the fixed windows, the position, the queues and the pots stay. An expiry named while the
timer is stopped or not yet due changes nothing (entry 2). R131, R132: a glue window in progress that is cut ends, and
the book in the clamp it was begun for takes GLUE_INTERRUPTED if it has no cause; a clamp that is empty by then costs no
book (entry 26); the channel's definition, polarity and force, and every other channel, stay. Both glue channels are
cut, SPINE_GLUE (2) and then SIDE_GLUE (3). -/
def Obligations.StandstillHoldsTheLine : Prop :=
  (∀ (s : State) (due : Nat) (mode : LineMode) (ret : ReturnMode),
     s.stoppage.held = false → s.clock.standstillTimer = some due → due ≤ s.now → s.clock.mode = mode →
     (mode = .run ∧ ret = .run) ∨ (mode = .runout ∧ ret = .runout) →
     ∃ t, exec .standstillExpiry s = .next t ∧ t.now = s.now
       ∧ t.clock = { s.clock with
           mode := .hold .standstill ret, standstillTimer := none, standstillTravel := 0 }
       ∧ (∀ c : Fin 8, t.cams[c] = if c = 2 ∨ c = 3 then { s.cams[c] with window := none } else s.cams[c])
       ∧ t.books.slots = (s.cutGlueWindows).books.slots ∧ t.due = (s.cutGlueWindows).due
       ∧ t.books = { s.books with slots := t.books.slots }
       ∧ (∀ p : PortId, t.ports[p] = Port.raise s.now .mode s.ports[p])
       ∧ t.stoppage = { s.stoppage with lampA := ⟨true, some (t.now + 1000)⟩, lampB := ⟨false, none⟩ }
       ∧ t.carousel = s.carousel ∧ t.glue = s.glue ∧ t.delivery = s.delivery ∧ t.lifting = s.lifting
       ∧ t.setpoints = s.setpoints ∧ t.timers = s.timers ∧ t.pending = s.pending
       ∧ t.wires = s.wires ∧ t.arriving = s.arriving)
  ∧ (∀ s : State, s.stoppage.held = false →
       (s.clock.standstillTimer = none ∨ (∃ due, s.clock.standstillTimer = some due ∧ s.now < due)
         ∨ (s.clock.mode ≠ .run ∧ s.clock.mode ≠ .runout)) → exec .standstillExpiry s = .next s)
  ∧ (∀ (c : Fin 8) (s : State),
       (s.cams[c].window = none → s.cutGlueWindow c = s)
       ∧ ∀ w, s.cams[c].window = some w →
         (∀ n, s.carousel.bookIn w.clamp = some n → s.cutGlueWindow c =
           { s.setCause n .glueInterrupted with cams := s.cams.set c { s.cams[c] with window := none } })
         ∧ (s.carousel.bookIn w.clamp = none → s.cutGlueWindow c =
           { s with cams := s.cams.set c { s.cams[c] with window := none } }))
  ∧ ∀ s : State, s.cutGlueWindows = (s.cutGlueWindow 2).cutGlueWindow 3

/-! ### The line-mode machine -/

/-- R13, R14: START from BINDER. Outside SETUP it is refused with REFUSED_MODE; in SETUP the checks C1 to C8 are
made in order and the first that fails refuses it with its number and changes nothing; with all passing every force
is released, the latch, the lag, the homing travel, the pitches since home and the fired marks are cleared, and the
line is HOMING. -/
def Obligations.StartChecksThenHomes : Prop :=
  ∀ (p : PortId) (s : State), s.stoppage.held = false → s.ports[p].role = .binder →
    (s.clock.mode ≠ .setup → exec (.start p) s = .next (s.finish p 0x30 ⟨.refusedMode, 0⟩))
    ∧ (s.clock.mode = .setup → ∀ k, 1 ≤ k → k ≤ 8 → (∀ j, 1 ≤ j → j < k → s.checkPasses j) → ¬ s.checkPasses k →
      exec (.start p) s = .next (s.finish p 0x30 ⟨.refusedRange, k⟩))
    ∧ (s.clock.mode = .setup → (∀ j, 1 ≤ j → j ≤ 8 → s.checkPasses j) →
      exec (.start p) s = .next ((({ s with
        clock := { s.clock with
          mode := .homing, lag := 0, homingTravel := 0, pitchesSinceHome := 0, fired := Vector.replicate 7 false }
        carousel := { s.carousel with presence := false }
        cams := s.cams.map fun c => { c with forced := false }
        stoppage := { s.stoppage with lampA := ⟨true, some (s.now + 500)⟩, lampB := ⟨false, none⟩ } } : State).raise
          .mode).finish p 0x30 ⟨.ok, 0⟩))

/-- R20: HOLD from BINDER: RUN and RUNOUT enter a COMMANDED hold that returns to them, with the standstill timer
stopped and the glue windows cut; a STANDSTILL hold becomes COMMANDED without a change of mode; a COMMANDED hold is
kept; elsewhere it is refused. R12, R21, R22: RESUME from BINDER in a COMMANDED hold returns the line: to RUN, or to
RUNOUT while a clamp is occupied, with the standstill timer started, or with every clamp empty from a return to
RUNOUT to SETUP, its windows ended; MODE is raised once. In every other state it is refused. That the standstill travel
is 0 in a COMMANDED hold is the model's choice (entry 24). -/
def Obligations.HoldAndResumeByMode : Prop :=
  (∀ (p : PortId) (s : State), s.stoppage.held = false → s.ports[p].role = .binder →
     let entered (ret : ReturnMode) : State := ({ s.cutGlueWindows with
       clock := { s.clock with mode := .hold .commanded ret, standstillTimer := none, standstillTravel := 0 }
       stoppage := { s.stoppage with lampA := ⟨true, some (s.now + 1000)⟩, lampB := ⟨false, none⟩ } } : State).raise .mode
     (s.clock.mode = .run → exec (.hold p) s = .next ((entered .run).finish p 0x31 ⟨.ok, 0⟩))
     ∧ (s.clock.mode = .runout → exec (.hold p) s = .next ((entered .runout).finish p 0x31 ⟨.ok, 0⟩))
     ∧ (∀ ret, s.clock.mode = .hold .standstill ret → exec (.hold p) s = .next (({ s with
         clock := { s.clock with mode := .hold .commanded ret, standstillTravel := 0 } } : State).finish p 0x31
           ⟨.ok, 0⟩))
     ∧ (∀ ret, s.clock.mode = .hold .commanded ret → exec (.hold p) s = .next (s.finish p 0x31 ⟨.ok, 0⟩))
     ∧ (s.clock.mode = .setup ∨ s.clock.mode = .homing ∨ s.clock.mode = .halted →
       exec (.hold p) s = .next (s.finish p 0x31 ⟨.refusedMode, 0⟩)))
  ∧ (∀ (p : PortId) (s : State), s.stoppage.held = false → s.ports[p].role = .binder →
       (s.clock.mode = .hold .commanded .run → exec (.resume p) s = .next ((({ s with
         clock := { s.clock with mode := .run, standstillTimer := some (s.now + s.timers.standstill) }
         stoppage := { s.stoppage with lampA := ⟨true, none⟩, lampB := ⟨false, none⟩ } } : State).raise .mode).finish p
           0x32 ⟨.ok, 0⟩))
       ∧ (s.clock.mode = .hold .commanded .runout → (∃ entry ∈ s.carousel.clampMap, entry ≠ none) →
         exec (.resume p) s = .next ((({ s with
           clock := { s.clock with mode := .runout, standstillTimer := some (s.now + s.timers.standstill) }
           stoppage := { s.stoppage with lampA := ⟨true, some (s.now + 500)⟩, lampB := ⟨true, none⟩ } } : State).raise
             .mode).finish p 0x32 ⟨.ok, 0⟩))
       ∧ (s.clock.mode = .hold .commanded .runout → (∀ entry ∈ s.carousel.clampMap, entry = none) →
         exec (.resume p) s = .next ((({ s with
           clock := { s.clock with mode := .setup, standstillTimer := none }
           cams := s.cams.map fun c => { c with window := none }
           stoppage := { s.stoppage with lampA := ⟨false, none⟩, lampB := ⟨true, none⟩ } } : State).raise .mode).finish
             p 0x32 ⟨.ok, 0⟩))
       ∧ ((∀ ret, s.clock.mode ≠ .hold .commanded ret) →
         exec (.resume p) s = .next (s.finish p 0x32 ⟨.refusedMode, 0⟩)))

/-- R22: RUNOUT from BINDER: from RUN to RUNOUT with the standstill timer running on, or with every clamp empty to
SETUP; in HOLD the return mode alone becomes RUNOUT, with no MODE raised; in RUNOUT nothing changes; elsewhere it is
refused. R23: STOP from BINDER takes a started line to SETUP when every clamp is empty, and is refused otherwise.
R25: CLEAR HALT from BINDER takes HALTED to SETUP with the halt cause, the further-cause flag and the lag cleared,
and is refused in every other mode. -/
def Obligations.RunoutStopAndClearHalt : Prop :=
  ∀ (p : PortId) (s : State), s.stoppage.held = false → s.ports[p].role = .binder →
    let empty := ∀ entry ∈ s.carousel.clampMap, entry = none
    let toSetup : State := ({ s with
      clock := { s.clock with mode := .setup, standstillTimer := none }
      cams := s.cams.map fun c => { c with window := none }
      stoppage := { s.stoppage with lampA := ⟨false, none⟩, lampB := ⟨true, none⟩ } } : State).raise .mode
    (s.clock.mode = .run → empty → exec (.runout p) s = .next (toSetup.finish p 0x33 ⟨.ok, 0⟩))
    ∧ (s.clock.mode = .run → ¬ empty → exec (.runout p) s = .next ((({ s with
        clock := { s.clock with mode := .runout }
        stoppage := { s.stoppage with lampA := ⟨true, some (s.now + 500)⟩, lampB := ⟨true, none⟩ } } : State).raise
          .mode).finish p 0x33 ⟨.ok, 0⟩))
    ∧ (∀ kind ret, s.clock.mode = .hold kind ret → exec (.runout p) s = .next (({ s with
        clock := { s.clock with mode := .hold kind .runout } } : State).finish p 0x33 ⟨.ok, 0⟩))
    ∧ (s.clock.mode = .runout → exec (.runout p) s = .next (s.finish p 0x33 ⟨.ok, 0⟩))
    ∧ (s.clock.mode = .setup ∨ s.clock.mode = .homing ∨ s.clock.mode = .halted →
      exec (.runout p) s = .next (s.finish p 0x33 ⟨.refusedMode, 0⟩))
    ∧ (s.clock.mode.started = true → empty → exec (.stop p) s = .next (toSetup.finish p 0x34 ⟨.ok, 0⟩))
    ∧ (s.clock.mode = .setup ∨ s.clock.mode = .halted ∨ ¬ empty →
      exec (.stop p) s = .next (s.finish p 0x34 ⟨.refusedMode, 0⟩))
    ∧ (s.clock.mode = .halted → exec (.clearHalt p) s = .next ((({ s with
        clock := { s.clock with mode := .setup, lag := 0 }
        stoppage := { s.stoppage with
          haltCause := none, furtherCause := false, lampA := ⟨false, none⟩, lampB := ⟨true, none⟩ } } : State).raise
          .mode).finish p 0x35 ⟨.ok, 0⟩))
    ∧ (s.clock.mode ≠ .halted → exec (.clearHalt p) s = .next (s.finish p 0x35 ⟨.refusedMode, 0⟩))

/-- R24: a halt cause taken in HALTED sets only the further-cause flag; in SETUP JAM_A and JAM_B are discarded; in
every started mode, and for SUPPLY in SETUP, the line enters HALTED with that cause. MODEL'S CHOICE (entry 25):
REVERSE, HOME_MISMATCH and HOME_MISSING, which R24 says do not arise in SETUP, are discarded there too. R24, R85, R142,
R180: what entering HALTED does: the cause is recorded and the further-cause flag cleared, the standstill timer stops,
every window ends and every force is off, the presence latch clears, every clamped book is suspect, and MODE and HALT
are raised at every port, whose result, subject, frame, enables and mode stay; the position, the clamp map, the locks,
the queues, the lift list, the pots, the seal timer, the settings and the supply monitor stay, and so does every book
but for the suspect mark and a cut glue window's GLUE_INTERRUPTED. -/
def Obligations.HaltCausesByMode : Prop :=
  (∀ (cause : HaltCause) (s : State),
     (s.clock.mode = .halted →
       s.takeHaltCause cause = { s with stoppage := { s.stoppage with furtherCause := true } })
     ∧ (s.clock.mode = .setup → cause ≠ .supply → s.takeHaltCause cause = s)
     ∧ (s.clock.mode.started = true ∨ (s.clock.mode = .setup ∧ cause = .supply) →
       s.takeHaltCause cause = s.enterHalted cause))
  ∧ (∀ (cause : HaltCause) (s : State),
       let t := s.enterHalted cause
       t.clock = { s.clock with mode := .halted, standstillTimer := none }
       ∧ t.stoppage = { s.stoppage with
           haltCause := some cause, furtherCause := false
           lampA := ⟨false, none⟩, lampB := ⟨true, some (s.now + 500)⟩ }
       ∧ t.cams = s.cams.map (fun c => { c with window := none, forced := false })
       ∧ t.carousel = { s.carousel with presence := false }
       ∧ (∀ p : PortId, t.ports[p] = Port.raise s.now .halt (Port.raise s.now .mode s.ports[p]))
       ∧ (∀ n b, (s.cutGlueWindows).findBook n = some b → t.findBook n
           = some { b with suspect := if some n ∈ s.carousel.clampMap then true else b.suspect })
       ∧ t.books = { s.books with slots := t.books.slots } ∧ t.due = (s.cutGlueWindows).due
       ∧ t.delivery = s.delivery ∧ t.lifting = s.lifting ∧ t.glue = s.glue ∧ t.setpoints = s.setpoints
       ∧ t.timers = s.timers ∧ t.now = s.now ∧ t.wires = s.wires ∧ t.arriving = s.arriving ∧ t.pending = s.pending)

/-- R19: every change of the line mode within one command or event, but for the end of a reset, is one of the table,
by one of the commands or events the table gives for it. R26, R188: every change of the line mode, but for the end
of a reset, leaves MODE latched at all four ports and both lamps in the pattern of the new mode, a flashing lamp in
its on half. R180, R181: whenever a step takes the line into HALTED, every live book that stands in a clamp is
suspect after it. -/
def Obligations.ModeChangesFollowTheTable : Prop :=
  (∀ (i : Instr) (s t : State), (∀ sample, i ≠ .resetEnd sample) → exec i s = .next t →
     s.clock.mode.name ≠ t.clock.mode.name → modeMove i s.clock.mode.name t.clock.mode.name = true)
  ∧ (∀ (i : Instr) (s t : State), (∀ sample, i ≠ .resetEnd sample) → exec i s = .next t →
       s.clock.mode.name ≠ t.clock.mode.name →
       (∀ p : PortId, t.ports[p].latches.getLsbD 7 = true)
       ∧ t.stoppage.lampA = (match t.clock.mode.name with
           | .setup => ⟨false, none⟩
           | .homing => ⟨true, some (t.now + 500)⟩
           | .run => ⟨true, none⟩
           | .hold => ⟨true, some (t.now + 1000)⟩
           | .runout => ⟨true, some (t.now + 500)⟩
           | .halted => ⟨false, none⟩)
       ∧ t.stoppage.lampB = (match t.clock.mode.name with
           | .setup => ⟨true, none⟩
           | .homing => ⟨false, none⟩
           | .run => ⟨false, none⟩
           | .hold => ⟨false, none⟩
           | .runout => ⟨true, none⟩
           | .halted => ⟨true, some (t.now + 500)⟩))
  ∧ (∀ (s t : State), step s = .next t → s.clock.mode ≠ .halted → t.clock.mode = .halted →
       ∀ (clamp n : Nat) (b : Book), t.carousel.bookIn clamp = some n → t.findBook n = some b → b.suspect = true)

/-! ### Inputs, supply, cams, lamps -/

/-- R5, R6: a raw input that takes the conditioned level drops the pending change; one that takes the opposite level
begins a pending change of the debounce time, and with a debounce time of 0 is a conditioned change at once. The
expiry of the pending change that is due is the conditioned change. Where the edge select does not match, the
conditioned level changes and nothing is reported. An expiry named with no pending change, or before it is due, changes
nothing (entry 2). -/
def Obligations.SensorsAreConditioned : Prop :=
  ∀ (n : Sensor) (level : Bool) (s : State), s.stoppage.held = false →
    let c := s.clock.sensors[sensorIndex n]
    let with_ (f : Conditioner) : State := { s with
      clock := { s.clock with sensors := s.clock.sensors.set (sensorIndex n) f } }
    let reported (edge : EdgeSelect) (new : Bool) : Prop :=
      (edge = .rising ∧ new = true) ∨ (edge = .falling ∧ new = false) ∨ edge = .both
    (c.raw = level → exec (.sensorRawChange n level) s = .next s)
    ∧ (c.raw ≠ level → level = c.level →
      exec (.sensorRawChange n level) s = .next (with_ { c with raw := level, pending := none }))
    ∧ (c.raw ≠ level → level ≠ c.level → 0 < c.debounce → exec (.sensorRawChange n level) s
        = .next (with_ { c with raw := level, pending := some (s.now + c.debounce) }))
    ∧ (c.raw ≠ level → level ≠ c.level → c.debounce = 0 →
      let u := with_ { c with raw := level, level := level, pending := none }
      (reported c.edge level → exec (.sensorRawChange n level) s = .next (u.sensorEdge n))
      ∧ (¬ reported c.edge level → exec (.sensorRawChange n level) s = .next u))
    ∧ (∀ due, c.pending = some due → due ≤ s.now →
      let u := with_ { c with level := !c.level, pending := none }
      (reported c.edge (!c.level) → exec (.debounceExpiry n) s = .next (u.sensorEdge n))
      ∧ (¬ reported c.edge (!c.level) → exec (.debounceExpiry n) s = .next u))
    ∧ (∀ due, c.pending = some due → s.now < due → exec (.debounceExpiry n) s = .next s)
    ∧ (c.pending = none → exec (.debounceExpiry n) s = .next s)

/-- R15, R17, R84, R177: what an edge does. BLOCK sets the presence latch in a started mode. HOME ends homing (k 0,
the phase the home phase, the lag and the pitches since home 0, the marks of the stations at or below the home phase
set, RUN), is accepted in RUN, HOLD and RUNOUT within the tolerance of clamp 0 and raises HOME_MISMATCH outside it,
and is discarded in SETUP and HALTED. JAM_A and JAM_B raise their halt cause. -/
def Obligations.EdgesReachTheirReceivers : Prop :=
  ∀ s : State, 0 < s.clock.geometry.clampCount →
    let g := s.clock.geometry
    let d : Int := (s.clock.phase : Int) - g.homePhase
    let e : Int := g.pitchCounts
    let k : Int := s.clock.clampIndex
    let accepted : Prop :=
      if e < 2 * d then |d - e| ≤ g.homeTolerance ∧ (k + 1) % g.clampCount = 0
      else if 2 * d ≤ -e then |d + e| ≤ g.homeTolerance ∧ (k - 1) % g.clampCount = 0
      else |d| ≤ g.homeTolerance ∧ k = 0
    (s.clock.mode.started = true →
      s.sensorEdge .block = { s with carousel := { s.carousel with presence := true } })
    ∧ (s.clock.mode.started = false → s.sensorEdge .block = s)
    ∧ (s.clock.mode = .homing → s.sensorEdge .home = ({ s with
        clock := { s.clock with
          mode := .run, clampIndex := 0, phase := g.homePhase, lag := 0, pitchesSinceHome := 0
          fired := s.clock.stations.map fun p => decide (p.phase ≤ g.homePhase)
          standstillTimer := some (s.now + s.timers.standstill) }
        stoppage := { s.stoppage with lampA := ⟨true, none⟩, lampB := ⟨false, none⟩ } } : State).raise .mode)
    ∧ (s.clock.mode.stationsFire = true → accepted →
      s.sensorEdge .home = { s with clock := { s.clock with pitchesSinceHome := 0 } })
    ∧ (s.clock.mode.stationsFire = true → ¬ accepted → s.sensorEdge .home = s.enterHalted .homeMismatch)
    ∧ (s.clock.mode = .setup ∨ s.clock.mode = .halted → s.sensorEdge .home = s)
    ∧ s.sensorEdge .jamA = s.takeHaltCause .jamA ∧ s.sensorEdge .jamB = s.takeHaltCause .jamB

/-- R178, R179: a fall of the supply starts a dip, its return ends it; a dip that lasts gives one supply event,
which halts the line with SUPPLY under FREEZE, in SETUP and every started mode, sets the further-cause flag in
HALTED, and begins a reset of cause SUPPLY under RESET; an event of a dip already acted on does nothing. MODEL'S CHOICE:
an event with no dip, a return with no dip and a fall while already dipping change nothing (entry 13); when the SUPPLY
reset begins the registers keep their values until it ends (entry 11). -/
def Obligations.SupplyDipsAreActedOnOnce : Prop :=
  ∀ s : State, s.stoppage.held = false →
    let dipped : State := { s with stoppage := { s.stoppage with supply := .dipping true } }
    (s.stoppage.supply = .clear → exec .supplyDipStart s
        = .next { s with stoppage := { s.stoppage with supply := .dipping false } })
    ∧ (s.stoppage.supply ≠ .clear → exec .supplyDipStart s = .next s)
    ∧ exec .supplyReturn s = .next { s with stoppage := { s.stoppage with supply := .clear } }
    ∧ (s.stoppage.supply ≠ .dipping false → exec .supplyEvent s = .next s)
    ∧ (s.stoppage.supply = .dipping false → s.clock.geometry.supplyAction = .freeze →
      (s.clock.mode = .halted → exec .supplyEvent s
          = .next { dipped with stoppage := { dipped.stoppage with furtherCause := true } })
      ∧ (s.clock.mode ≠ .halted → exec .supplyEvent s = .next (dipped.enterHalted .supply)))
    ∧ (s.stoppage.supply = .dipping false → s.clock.geometry.supplyAction = .reset →
      exec .supplyEvent s = .next { dipped with
        stoppage := { dipped.stoppage with held := true, resetCause := .supply, asserted := [.supply] }
        ports := s.ports.map fun q =>
          { q with frame := .idle, collected := [], snapshot := none, taking := none, pulse := none } })

/-- R135, R137: beginning a window records its clamp, start, length and a travel of 0, on its own channel alone, in
place of one in progress; one of start 0 and length 0 has ended already. CAM_WINDOW_END ends a window whose travel
has reached start plus length, and leaves one that has not (entry 8). R136: a glue window is begun on its channel with
the start and length given by the window's E and the geometry's E as it stands. -/
def Obligations.WindowsBeginAndEnd : Prop :=
  (∀ (c : Fin 8) (clamp start length : Nat) (s : State),
     let set_ (w : Option CamWindow) : State := { s with cams := s.cams.set c { s.cams[c] with window := w } }
     (0 < start + length → s.beginWindow c clamp start length = set_ (some ⟨clamp, start, length, 0⟩))
     ∧ (start + length = 0 → s.beginWindow c clamp start length = set_ none)
     ∧ s.beginFixed c clamp = s.beginWindow c clamp s.cams[c].start s.cams[c].length
     ∧ (∀ (windowE : Nat) (w : GlueWindow),
       let begun := glueWindowBegun windowE s.clock.geometry.pitchCounts w
       s.beginGlue c clamp windowE w = s.beginWindow c clamp begun.start begun.length)
     ∧ (s.stoppage.held = false → ∀ w, s.cams[c].window = some w →
       (w.start + w.length ≤ w.travel → exec (.camWindowEnd c) s = .next (set_ none))
       ∧ (w.travel < w.start + w.length → exec (.camWindowEnd c) s = .next s)))
  ∧ (∀ (windowE e : Nat) (w : GlueWindow),
       (windowE = e → glueWindowBegun windowE e w = w)
       ∧ (windowE ≠ e → w.start + w.length ≤ e → glueWindowBegun windowE e w = w)
       ∧ (windowE ≠ e → e < w.start + w.length → w.start < e → glueWindowBegun windowE e w = ⟨w.start, e - w.start⟩)
       ∧ (windowE ≠ e → e < w.start + w.length → e ≤ w.start → glueWindowBegun windowE e w = ⟨e, 0⟩)
       ∧ (w.start + w.length ≤ windowE →
         (glueWindowBegun windowE e w).start + (glueWindowBegun windowE e w).length ≤ e))

/-- R86, R124, R52: INFEED_GATE is active exactly while the mode is RUN, occupancy is below D, glue is ready and the
presence latch is clear; occupancy is the occupied clamps, the delivery queue and the books in lifts. R140, R141:
the level of a cam output: high exactly while its channel is active and ACTIVE HIGH or inactive and ACTIVE LOW; a
channel is active in SETUP while forced, in RUN, RUNOUT and HOLD while its window's travel lies from start up to
start plus length, in HOMING and HALTED never. R188: the half of a flashing lamp that is over ends: the lamp changes
level and its next half, of the mode's pattern, begins; a half that is not over is left as it is (entry 2), and so is a
lamp that does not flash (entry 13). -/
def Obligations.OutputLevels : Prop :=
  (∀ s : State, s.stoppage.held = false →
     (s.infeedGate = true ↔ s.clock.mode = .run ∧ s.occupancy < s.clock.geometry.capacity
       ∧ (s.glue.spine.state = .ready ∧ (s.glue.side.state = .ready ∨ s.glue.side.enabled = false))
       ∧ s.carousel.presence = false)
     ∧ s.occupancy = (s.carousel.clampMap.filter Option.isSome).length + s.delivery.length
         + (s.lifting.lifts.flatMap Lift.books).length)
  ∧ (∀ (c : Fin 8) (s : State), s.stoppage.held = false →
       let high (active : Prop) : Prop := s.camOutput c = true ↔ (active ↔ s.cams[c].activeLow = false)
       (s.clock.mode = .setup → high (s.cams[c].forced = true))
       ∧ (s.clock.mode = .homing ∨ s.clock.mode = .halted → high False)
       ∧ (s.clock.mode.stationsFire = true →
         high (∃ w, s.cams[c].window = some w ∧ w.start ≤ w.travel ∧ w.travel < w.start + w.length)))
  ∧ (∀ s : State, s.stoppage.held = false →
       let half (lamp : LampId) : Nat := match lamp, s.clock.mode.name with
         | .a, .homing => 500
         | .a, .hold => 1000
         | .a, .runout => 500
         | .b, .halted => 500
         | _, _ => 0
       (∀ due, s.stoppage.lampA.toggleAt = some due → due ≤ s.now → exec (.lampFlashToggle .a) s = .next { s with
         stoppage := { s.stoppage with lampA := ⟨!s.stoppage.lampA.on, some (due + half .a)⟩ } })
       ∧ (∀ due, s.stoppage.lampA.toggleAt = some due → s.now < due → exec (.lampFlashToggle .a) s = .next s)
       ∧ (∀ due, s.stoppage.lampB.toggleAt = some due → due ≤ s.now → exec (.lampFlashToggle .b) s = .next { s with
         stoppage := { s.stoppage with lampB := ⟨!s.stoppage.lampB.on, some (due + half .b)⟩ } })
       ∧ (∀ due, s.stoppage.lampB.toggleAt = some due → s.now < due → exec (.lampFlashToggle .b) s = .next s)
       ∧ (s.stoppage.lampA.toggleAt = none → exec (.lampFlashToggle .a) s = .next s)
       ∧ (s.stoppage.lampB.toggleAt = none → exec (.lampFlashToggle .b) s = .next s))

/-! ### Glue and open time -/

/-- R118: the decision on a pot's state, row by row and column by column, the columns parted at low − hysteresis,
low, high − hysteresis and high, taken from the left. R117 to R123: GLUE READING from BINDER: the raw value is
brought to 4,000, calibrated and filtered (the first reading of an UNKNOWN pot is taken as it is); an enabled pot's
stale timer restarts and its state is decided on the new filtered value, a change starting and stopping its timers
and raising GLUE; with a glue settle time of 0 SETTLING is READY at once, GLUE raised for each change; a disabled
pot takes the calibrated value alone; an unknown pot is refused, its subject 0 being entry 12's. -/
def Obligations.GlueReadingDecidesThePot : Prop :=
  ((∀ (p : Pot) (v : Nat),
     (p.bandOf v = .belowBand ↔ (v : Int) < (p.low : Int) - p.hysteresis)
     ∧ (p.bandOf v = .lowMargin ↔ (p.low : Int) - p.hysteresis ≤ v ∧ v < p.low)
     ∧ (p.bandOf v = .band ↔ p.low ≤ v ∧ (v : Int) ≤ (p.high : Int) - p.hysteresis)
     ∧ (p.bandOf v = .highMargin ↔ p.low ≤ v ∧ (p.high : Int) - p.hysteresis < v ∧ v ≤ p.high)
     ∧ (p.bandOf v = .aboveBand ↔ p.low ≤ v ∧ p.high < v))
   ∧ ∀ before : PotState,
     [Band.belowBand, .lowMargin, .band, .highMargin, .aboveBand].map (PotState.decide before) = match before with
       | .unknown => [.cold, .cold, .settling, .settling, .hot]
       | .cold => [.cold, .cold, .settling, .settling, .hot]
       | .settling => [.cold, .settling, .settling, .settling, .hot]
       | .ready => [.cold, .ready, .ready, .ready, .hot]
       | .hot => [.cold, .ready, .ready, .hot, .hot]
       | .fault => [.fault, .fault, .fault, .fault, .fault])
  ∧ (∀ (p : PortId) (pot : Byte) (raw : Word16) (s : State), s.stoppage.held = false → s.ports[p].role = .binder →
       let result : Result := if 4000 < raw.toNat then .adjusted else .ok
       (2 ≤ pot.toNat → exec (.glueReading p pot raw) s = .next (s.finish p 0x37 ⟨.refusedRange, 0⟩))
       ∧ ∀ id : PotId, (pot.toNat = 0 ∧ id = .spine) ∨ (pot.toNat = 1 ∧ id = .side) →
         let q := s.glue.pot id
         let sum : Int := (min raw.toNat 4000 : Nat) + q.offset
         let calibrated : Nat := (min 4000 (max 0 sum)).toNat
         let v : Nat := if q.state = .unknown then calibrated
           else ((q.filtered : Int) + Int.tdiv ((calibrated : Int) - q.filtered) (2 ^ q.shift)).toNat
         let new := q.state.decide (q.bandOf v)
         let read : State := s.modifyPot id fun q => { q with filtered := v, stale := some (s.now + s.timers.stale) }
         let changed (st : PotState) : State := (read.modifyPot id fun q => { q with
           state := st
           settle := if st = .settling then some (s.now + s.timers.glueSettle) else none
           heatUp := if st = .cold then some (s.now + 1000 * s.timers.heatUp) else none }).raise .glue
         (q.enabled = false → exec (.glueReading p pot raw) s
             = .next ((s.modifyPot id fun q => { q with filtered := calibrated }).finish p 0x37 ⟨result, pot.toNat⟩))
         ∧ (q.enabled = true → new = q.state →
           exec (.glueReading p pot raw) s = .next (read.finish p 0x37 ⟨result, pot.toNat⟩))
         ∧ (q.enabled = true → new ≠ q.state → ¬ (new = .settling ∧ s.timers.glueSettle = 0) →
           exec (.glueReading p pot raw) s = .next ((changed new).finish p 0x37 ⟨result, pot.toNat⟩))
         ∧ (q.enabled = true → new ≠ q.state → new = .settling → s.timers.glueSettle = 0 →
           exec (.glueReading p pot raw) s = .next (((changed .ready).raise .glue).finish p 0x37 ⟨result, pot.toNat⟩)))

/-- R119 to R122: the expiries of a pot's timers that are due: settle makes it READY, heat-up puts it in FAULT, stale
puts it in UNKNOWN, each a change of state that raises GLUE; in FAULT the stale timer only stops. An expiry named while
its timer is stopped or not yet due, as after a reading that restarted it, changes nothing (entry 2). CLEAR GLUE FAULT
from BINDER takes a pot in FAULT to UNKNOWN, and is refused in every other state and for an unknown pot. -/
def Obligations.PotTimersAndFault : Prop :=
  ∀ (id : PotId) (s : State), s.stoppage.held = false →
    let q := s.glue.pot id
    let entered (st : PotState) (stale : Option Nat) : State := (s.modifyPot id fun q =>
      { q with state := st, settle := none, heatUp := none, stale := stale }).raise .glue
    let due (timer : Option Nat) : Prop := ∃ at_, timer = some at_ ∧ at_ ≤ s.now
    let notDue (timer : Option Nat) : Prop := timer = none ∨ ∃ at_, timer = some at_ ∧ s.now < at_
    (due q.settle → exec (.settleExpiry id) s = .next (entered .ready q.stale))
    ∧ (notDue q.settle → exec (.settleExpiry id) s = .next s)
    ∧ (due q.heatUp → exec (.heatUpExpiry id) s = .next (entered .fault q.stale))
    ∧ (notDue q.heatUp → exec (.heatUpExpiry id) s = .next s)
    ∧ (due q.stale → q.state ≠ .fault → exec (.staleExpiry id) s = .next (entered .unknown none))
    ∧ (due q.stale → q.state = .fault →
      exec (.staleExpiry id) s = .next (s.modifyPot id fun q => { q with stale := none }))
    ∧ (notDue q.stale → exec (.staleExpiry id) s = .next s)
    ∧ ∀ (p : PortId) (pot : Byte), s.ports[p].role = .binder →
      (2 ≤ pot.toNat → exec (.clearGlueFault p pot) s = .next (s.finish p 0x38 ⟨.refusedRange, pot.toNat⟩))
      ∧ ((pot.toNat = 0 ∧ id = .spine) ∨ (pot.toNat = 1 ∧ id = .side) →
        (q.state = .fault → exec (.clearGlueFault p pot) s
            = .next ((entered .unknown none).finish p 0x38 ⟨.ok, pot.toNat⟩))
        ∧ (q.state ≠ .fault →
          exec (.clearGlueFault p pot) s = .next (s.finish p 0x38 ⟨.refusedMode, pot.toNat⟩)))

/-- R129: the expiry of a book's open-time timer that is due: the timer is idle and a book without a cause takes
OPEN_TIME, its due list entry's want no. R149, R150: a COOLING book whose deadline is reached is READY, and is
offered to the Lift Builder exactly if it is the head of the delivery queue. An expiry named before it is due, with its
timer stopped, for a book that is not COOLING or for a serial of no live book changes nothing (entries 2 and 13). -/
def Obligations.BookTimersExpire : Prop :=
  ∀ (serial : Word16) (s : State), s.stoppage.held = false →
    let n := serial.toNat
    let due (timer : Option Nat) : Prop := ∃ at_, timer = some at_ ∧ at_ ≤ s.now
    (s.findBook n = none → exec (.openTimeExpiry serial) s = .next s ∧ exec (.coolingExpiry serial) s = .next s)
    ∧ ∀ b, s.findBook n = some b →
      (due (b.openTime.map OpenTimer.due) → exec (.openTimeExpiry serial) s
          = .next ((s.mapBook n fun b => { b with openTime := none }).setCause n .openTime))
      ∧ (¬ due (b.openTime.map OpenTimer.due) → exec (.openTimeExpiry serial) s = .next s)
      ∧ (b.state = .cooling → due b.coolingDeadline →
        let ready := s.mapBook n fun b => { b with state := .ready }
        (s.delivery.head? ≠ some n → exec (.coolingExpiry serial) s = .next ready)
        ∧ (s.delivery.head? = some n → exec (.coolingExpiry serial) s = .next ready.offerDelivery))
      ∧ (b.state ≠ .cooling ∨ ¬ due b.coolingDeadline → exec (.coolingExpiry serial) s = .next s)

/-! ### Delivery and lifts -/

/-- R78, R79, R150, R151, R162, R163, R165: READY heads of the delivery queue are offered one after another until
one is left. An offered book joins the OPEN lift if it is compatible with the lift's first book, below max count and
within max height; otherwise an OPEN lift closes, and the book starts a new lift if the list holds fewer than 4,
else it stays. A lift at max count closes at once, and so does one whose lift window is 0. -/
def Obligations.OffersJoinStartOrLeave : Prop :=
  (∀ (tol : Nat) (r b : Book) (rj bj : Job) (rs bs : SetPoints), r.job = some rj → b.job = some bj →
    r.setPoints = some rs → b.setPoints = some bs →
    (compatible tol r b = true ↔ rj.height = bj.height ∧ rj.width = bj.width
      ∧ |(rs.headTrim : Int) - bs.headTrim| ≤ tol ∧ |(rs.footTrim : Int) - bs.footTrim| ≤ tol
      ∧ |(rs.foreTrim : Int) - bs.foreTrim| ≤ tol))
  ∧ (∀ (s : State) (b : Book) (sp : SetPoints), b.setPoints = some sp →
    let maxCount := s.lifting.limits.maxCount
    let window := s.timers.liftWindow
    let started (u : State) : State :=
      let n := u.lifting.nextNumber
      let t : State := { u.mapBook b.serial (fun b => { b with state := .inLift, liftNumber := some n }) with
        delivery := u.delivery.tail
        lifting := { u.lifting with
          lifts := u.lifting.lifts ++ [⟨n, .opened, [b.serial], sp.spine, false, some (u.now + window), none⟩]
          lastNumber := n } }
      if maxCount ≤ 1 ∨ window = 0 then t.closeLift n else t
    (s.lifting.openLift = none → s.lifting.lifts.length < 4 → s.offer b = (started s, true))
    ∧ (s.lifting.openLift = none → 4 ≤ s.lifting.lifts.length → s.offer b = (s, false))
    ∧ ∀ l, s.lifting.openLift = some l →
      let fits : Prop :=
        (∃ n r, l.books.head? = some n ∧ s.findBook n = some r
          ∧ compatible s.lifting.limits.tolerance r b = true)
        ∧ l.books.length < maxCount ∧ l.height + sp.spine ≤ s.lifting.limits.maxHeight
      let joined : State :=
        { s.mapBook b.serial (fun b => { b with state := .inLift, liftNumber := some l.number }) with
          delivery := s.delivery.tail
          lifting := { s.lifting with lifts := s.lifting.lifts.map fun m =>
            if m.number = l.number then { m with
              books := m.books ++ [b.serial], height := m.height + sp.spine, windowTimer := some (s.now + window) }
            else m } }
      (fits → l.books.length + 1 < maxCount → 0 < window → s.offer b = (joined, true))
      ∧ (fits → l.books.length + 1 = maxCount ∨ window = 0 → s.offer b = (joined.closeLift l.number, true))
      ∧ (¬ fits → s.lifting.lifts.length < 4 → s.offer b = (started (s.closeLift l.number), true))
      ∧ (¬ fits → 4 ≤ s.lifting.lifts.length → s.offer b = (s.closeLift l.number, false)))
  ∧ ∀ s : State,
    (s.delivery = [] → s.offerDelivery = s)
    ∧ ∀ n rest, s.delivery = n :: rest →
      ((∀ b, s.findBook n = some b → b.state ≠ .ready) → s.offerDelivery = s)
      ∧ ∀ b, s.findBook n = some b → b.state = .ready →
        s.offerDelivery = if (s.offer b).2 = true then (s.offer b).1.offerDelivery else (s.offer b).1

/-- R166: closing a lift makes it CLOSED, stops its window timer and raises LIFT. R165: the expiry of the OPEN
lift's window timer that is due closes it. R171: the expiry of the DISPATCHED lift's trim timer that is due sets its
overdue flag, stops the timer and raises OVERDUE. An expiry named before it is due, as after a join that restarted the
window (R153), or with its timer stopped changes nothing (entry 2), and so does one with no such lift (entry 13). R167:
CLOSE LIFT from TRIM closes the OPEN lift, and is refused where there is none. -/
def Obligations.LiftsCloseAndRunOverdue : Prop :=
  (∀ (n : Nat) (s : State), s.closeLift n = ({ s with lifting := { s.lifting with
    lifts := s.lifting.lifts.map fun l =>
      if l.number = n then { l with state := .closed, windowTimer := none } else l } } : State).raise .lift)
  ∧ ∀ s : State, s.stoppage.held = false →
    let due (timer : Option Nat) : Prop := ∃ at_, timer = some at_ ∧ at_ ≤ s.now
    (∀ l, s.lifting.openLift = some l → due l.windowTimer →
      exec .windowTimerExpiry s = .next (s.closeLift l.number))
    ∧ (∀ l, s.lifting.openLift = some l → ¬ due l.windowTimer → exec .windowTimerExpiry s = .next s)
    ∧ (s.lifting.openLift = none → exec .windowTimerExpiry s = .next s)
    ∧ (∀ l, s.lifting.dispatched = some l → ¬ due l.trimTimer → exec .trimTimerExpiry s = .next s)
    ∧ (∀ l, s.lifting.dispatched = some l → due l.trimTimer →
      exec .trimTimerExpiry s = .next (({ s with
        lifting := { s.lifting with lifts := s.lifting.lifts.map fun m =>
          if m.number = l.number then { m with overdue := true, trimTimer := none } else m } } : State).raise
            .overdue))
    ∧ (s.lifting.dispatched = none → exec .trimTimerExpiry s = .next s)
    ∧ ∀ p : PortId, s.ports[p].role = .trim →
      (∀ l, s.lifting.openLift = some l →
        exec (.closeLift p) s = .next ((s.closeLift l.number).finish p 0x52 ⟨.ok, l.number⟩))
      ∧ (s.lifting.openLift = none → exec (.closeLift p) s = .next (s.finish p 0x52 ⟨.refusedUnknown, 0⟩))

/-- R169, R170: TAKE LIFT from TRIM, by the first test that applies: BUSY while a lift is DISPATCHED; the oldest
CLOSED lift, or with none the OPEN lift, closed first, is DISPATCHED with its books CUTTING and its trim timer
running; another lift of the list is out of ORDER; any other number UNKNOWN. R172, R173: CUT DONE from TRIM for the
DISPATCHED lift retires its books in order, as DONE or as REJECTED with TRIM_FAULT and where Trimmer, takes the lift
off the list and offers the delivery head again. -/
def Obligations.TheTrimmerTakesAndCutsLifts : Prop :=
  ∀ (p : PortId) (lift outcome : Byte) (s : State), s.stoppage.held = false → s.ports[p].role = .trim →
    let n := lift.toNat
    let take := exec (.takeLift p lift) s
    let cut := exec (.cutDone p lift outcome) s
    let refused (code : Byte) (r : Result) : Answer := .next (s.finish p code ⟨r, n⟩)
    let dispatched (u : State) (books : List Nat) : State :=
      { books.foldl (fun u m => u.mapBook m fun b => { b with state := .cutting }) u with
        lifting := { u.lifting with lifts := u.lifting.lifts.map fun l =>
          if l.number = n then { l with
            state := .dispatched, overdue := false, trimTimer := some (u.now + u.timers.trimTimeout) }
          else l } }
    let cutUp (u : State) : State := ({ u with
      lifting := { s.lifting with lifts := s.lifting.lifts.filter fun l => l.number != n } } : State).offerDelivery
    (s.lifting.dispatched ≠ none → take = refused 0x50 .refusedBusy)
    ∧ (s.lifting.dispatched = none → ∀ c, s.lifting.oldestClosed = some c →
      (c.number = n → take = .next ((dispatched s c.books).finish p 0x50 ⟨.ok, n⟩))
      ∧ (c.number ≠ n → (∃ l ∈ s.lifting.lifts, l.number = n) → take = refused 0x50 .refusedOrder)
      ∧ ((∀ l ∈ s.lifting.lifts, l.number ≠ n) → take = refused 0x50 .refusedUnknown))
    ∧ (s.lifting.dispatched = none → s.lifting.oldestClosed = none →
      (∀ o, s.lifting.openLift = some o → o.number = n →
        take = .next ((dispatched (s.closeLift n) o.books).finish p 0x50 ⟨.ok, n⟩))
      ∧ ((∀ o, s.lifting.openLift = some o → o.number ≠ n) → take = refused 0x50 .refusedUnknown))
    ∧ ((∀ l, s.lifting.dispatched = some l → l.number ≠ n) → cut = refused 0x51 .refusedUnknown)
    ∧ ∀ l, s.lifting.dispatched = some l → l.number = n →
      (2 ≤ outcome.toNat → cut = refused 0x51 .refusedRange)
      ∧ (outcome = 0 → cut
          = .next ((cutUp (l.books.foldl (fun u m => u.retireDone m) s)).finish p 0x51 ⟨.ok, n⟩))
      ∧ (outcome = 1 → cut = .next
          ((cutUp (l.books.foldl (fun u m => u.retireRejected m .trimmer .trimFault) s)).finish p 0x51 ⟨.ok, n⟩))

/-! ### Configuration -/

/-- R4, R6, R7, R8, R80, R81: SET GEOMETRY, SET STATION and SET SENSOR in SETUP: each value is written, brought to
the nearer end of its range with ADJUSTED if it lies outside; N needs every clamp empty, sets k to 0, gives the
clamp map N entries and drops the locks of N and above; E sets phase and lag to 0 and clears the fired marks; D is
refused below the occupancy; the Infeed offset stays 0; BOTH for HOME becomes RISING; selectors that name nothing
are refused. That these three carry subject 0 is read from the rules' silence (entry 12). -/
def Obligations.GeometryStationsAndSensorsAreWritten : Prop :=
  ∀ (p : PortId) (s : State), s.stoppage.held = false → s.ports[p].role ≠ .observer → s.clock.mode = .setup →
    let into (lo hi v : Int) : Nat := (max lo (min hi v)).toNat
    let result (lo hi v : Int) : Result := if lo ≤ v ∧ v ≤ hi then .ok else .adjusted
    let g := s.clock.geometry
    let top : Int := (g.pitchCounts - 1 : Nat)
    let clocked (c : PitchClock) (r : Result) : Answer :=
      .next (({ s with clock := c } : State).finish p 0x70 ⟨r, 0⟩)
    let geo (g : Geometry) (r : Result) : Answer := clocked { s.clock with geometry := g } r
    (∀ (v : Word32),
      let x := v.toInt
      ((∀ entry ∈ s.carousel.clampMap, entry = none) → exec (.setGeometry p 0 v) s = .next (({ s with
        clock := { s.clock with geometry := { g with clampCount := into 8 32 x }, clampIndex := 0 }
        carousel := { s.carousel with
          clampMap := List.replicate (into 8 32 x) none
          locks := Vector.ofFn fun i : Fin 32 => s.carousel.locks[i] && decide (i.val < into 8 32 x) } } :
            State).finish p 0x70 ⟨result 8 32 x, 0⟩))
      ∧ ((∃ entry ∈ s.carousel.clampMap, entry ≠ none) →
        exec (.setGeometry p 0 v) s = .next (s.finish p 0x70 ⟨.refusedMode, 0⟩))
      ∧ exec (.setGeometry p 1 v) s = clocked { s.clock with
          geometry := { g with pitchCounts := into 1024 16384 x }
          phase := 0, lag := 0, fired := Vector.replicate 7 false } (result 1024 16384 x)
      ∧ exec (.setGeometry p 2 v) s = geo { g with pitchLength := into 200000 1200000 x } (result 200000 1200000 x)
      ∧ exec (.setGeometry p 3 v) s = geo { g with homePhase := into 0 top x } (result 0 top x)
      ∧ exec (.setGeometry p 4 v) s = geo { g with homeTolerance := into 8 512 x } (result 8 512 x)
      ∧ exec (.setGeometry p 5 v) s = geo { g with reverseTolerance := into 4 256 x } (result 4 256 x)
      ∧ (s.occupancy ≤ into 1 48 x →
        exec (.setGeometry p 6 v) s = geo { g with capacity := into 1 48 x } (result 1 48 x))
      ∧ (into 1 48 x < s.occupancy → exec (.setGeometry p 6 v) s = .next (s.finish p 0x70 ⟨.refusedRange, 0⟩))
      ∧ (x = 0 → exec (.setGeometry p 7 v) s = geo { g with supplyAction := .freeze } .ok)
      ∧ (x = 1 → exec (.setGeometry p 7 v) s = geo { g with supplyAction := .reset } .ok)
      ∧ (x < 0 ∨ 1 < x → exec (.setGeometry p 7 v) s = .next (s.finish p 0x70 ⟨.refusedRange, 0⟩))
      ∧ ∀ field : Byte, 8 ≤ field.toNat →
        exec (.setGeometry p field v) s = .next (s.finish p 0x70 ⟨.refusedRange, 0⟩))
    ∧ (∀ (station d : Byte) (phase : Word16),
      (∀ i : Fin 7, station.toNat = i.val + 1 →
        let far := if i = 0 then 0 else g.clampCount - 1
        exec (.setStation p station d phase) s = .next (({ s with clock := { s.clock with
          stations := s.clock.stations.set i ⟨min d.toNat far, min phase.toNat (g.pitchCounts - 1)⟩ } } :
            State).finish p 0x71
              ⟨if d.toNat ≤ far ∧ phase.toNat ≤ g.pitchCounts - 1 then .ok else .adjusted, 0⟩))
      ∧ (station.toNat = 0 ∨ 8 ≤ station.toNat →
        exec (.setStation p station d phase) s = .next (s.finish p 0x71 ⟨.refusedRange, 0⟩)))
    ∧ ∀ (sensor edge debounce : Byte),
      (∀ (i : Fin 4) (e : EdgeSelect), sensor.toNat = i → edge.toNat = e.code →
        let home := i = 1 ∧ e = .both
        exec (.setSensor p sensor edge debounce) s = .next (({ s with clock := { s.clock with
          sensors := s.clock.sensors.set i { s.clock.sensors[i] with
            edge := if home then .rising else e, debounce := min debounce.toNat 10 } } } : State).finish p 0x78
              ⟨if home ∨ 10 < debounce.toNat then .adjusted else .ok, 0⟩))
      ∧ (4 ≤ sensor.toNat ∨ 3 ≤ edge.toNat →
        exec (.setSensor p sensor edge debounce) s = .next (s.finish p 0x78 ⟨.refusedRange, 0⟩))

/-- R134: SET CAM WINDOW in SETUP writes a fixed channel's start or length, brought into 0..E, or any channel's
polarity; the glue channels have no start and length. R144: FORCE CAM sets or clears a channel's force. R115: SET
GLUE writes a pot's field, brought into its range; only the SIDE pot has an enable; disabling it makes it UNKNOWN
with every timer stopped, GLUE raised if its state changed. Selectors and values that name nothing are refused. -/
def Obligations.CamsAndPotsAreWritten : Prop :=
  ∀ (p : PortId) (s : State), s.stoppage.held = false → s.ports[p].role ≠ .observer → s.clock.mode = .setup →
    let into (lo hi v : Int) : Nat := (max lo (min hi v)).toNat
    let result (lo hi v : Int) : Result := if lo ≤ v ∧ v ≤ hi then .ok else .adjusted
    let e := s.clock.geometry.pitchCounts
    let cam (code : Byte) (c : Fin 8) (x : CamChannel) (r : Result) : Answer :=
      .next (({ s with cams := s.cams.set c x } : State).finish p code ⟨r, c⟩)
    (∀ (channel : Byte) (v : Word16), let x := v.toInt
      let refused (field : Byte) : Prop := exec (.setCamWindow p channel field v) s
        = .next (s.finish p 0x72 ⟨.refusedRange, channel.toNat⟩)
      (∀ c : Fin 8, channel.toNat = c →
        (c ≠ 2 → c ≠ 3 →
          exec (.setCamWindow p channel 0 v) s = cam 0x72 c { s.cams[c] with start := into 0 e x } (result 0 e x)
          ∧ exec (.setCamWindow p channel 1 v) s
            = cam 0x72 c { s.cams[c] with length := into 0 e x } (result 0 e x))
        ∧ (c = 2 ∨ c = 3 → refused 0 ∧ refused 1)
        ∧ (x = 0 → exec (.setCamWindow p channel 2 v) s = cam 0x72 c { s.cams[c] with activeLow := false } .ok)
        ∧ (x = 1 → exec (.setCamWindow p channel 2 v) s = cam 0x72 c { s.cams[c] with activeLow := true } .ok)
        ∧ (x < 0 ∨ 1 < x → refused 2)
        ∧ ∀ field : Byte, 3 ≤ field.toNat → refused field)
      ∧ (8 ≤ channel.toNat → ∀ field : Byte, refused field))
    ∧ (∀ (channel onOff : Byte),
      (∀ c : Fin 8, channel.toNat = c →
        (onOff = 0 → exec (.forceCam p channel onOff) s = cam 0x79 c { s.cams[c] with forced := false } .ok)
        ∧ (onOff = 1 → exec (.forceCam p channel onOff) s = cam 0x79 c { s.cams[c] with forced := true } .ok))
      ∧ (8 ≤ channel.toNat ∨ 2 ≤ onOff.toNat →
        exec (.forceCam p channel onOff) s = .next (s.finish p 0x79 ⟨.refusedRange, channel.toNat⟩)))
    ∧ ∀ (pot : Byte) (v : Word16), let x := v.toInt
      let refused (field : Byte) : Prop := exec (.setGlue p pot field v) s
        = .next (s.finish p 0x75 ⟨.refusedRange, pot.toNat⟩)
      (2 ≤ pot.toNat → ∀ field, refused field)
      ∧ (∀ id : PotId, (pot.toNat = 0 ∧ id = .spine) ∨ (pot.toNat = 1 ∧ id = .side) →
        let written (f : Pot → Pot) (r : Result) : Answer := .next ((s.modifyPot id f).finish p 0x75 ⟨r, pot.toNat⟩)
        exec (.setGlue p pot 0 v) s
            = written (fun q => { q with low := into 1000 2300 x }) (result 1000 2300 x)
        ∧ exec (.setGlue p pot 1 v) s
            = written (fun q => { q with high := into 1000 2300 x }) (result 1000 2300 x)
        ∧ exec (.setGlue p pot 2 v) s
            = written (fun q => { q with hysteresis := into 0 100 x }) (result 0 100 x)
        ∧ exec (.setGlue p pot 3 v) s
            = written (fun q => { q with offset := max (-200) (min 200 x) }) (result (-200) 200 x)
        ∧ exec (.setGlue p pot 4 v) s = written (fun q => { q with shift := into 0 4 x }) (result 0 4 x)
        ∧ (id = .spine ∨ x < 0 ∨ 1 < x → refused 5)
        ∧ (id = .side → x = 1 → exec (.setGlue p pot 5 v) s = written (fun q => { q with enabled := true }) .ok)
        ∧ (id = .side → x = 0 →
          let off (u : State) : State := u.modifyPot .side fun q =>
            { q with state := .unknown, enabled := false, settle := none, heatUp := none, stale := none }
          (s.glue.side.state = .unknown →
            exec (.setGlue p pot 5 v) s = .next ((off s).finish p 0x75 ⟨.ok, pot.toNat⟩))
          ∧ (s.glue.side.state ≠ .unknown →
            exec (.setGlue p pot 5 v) s = .next ((off (s.raise .glue)).finish p 0x75 ⟨.ok, pot.toNat⟩)))
        ∧ ∀ field : Byte, 6 ≤ field.toNat → refused field)

/-- R54, R55, R56, R57, R116, R161: SET JOB CLASS, SET GAUGE CAL, SET TIMERS and SET LIFT LIMITS in SETUP write the
field they name, brought to the nearer end of its range with ADJUSTED if the value lies outside, and nothing else; a
field that names nothing, and a yes/no or sign value that is neither, are refused; the lift limits are refused while
the lift list holds a lift. Subject 0 of SET TIMERS and SET LIFT LIMITS is entry 12's. -/
def Obligations.ClassesGaugeTimersAndLimitsAreWritten : Prop :=
  ∀ (p : PortId) (s : State) (v : Word32), s.stoppage.held = false → s.ports[p].role ≠ .observer →
    s.clock.mode = .setup →
    let x := v.toInt
    let into (lo hi : Int) : Nat := (max lo (min hi x)).toNat
    let result (lo hi : Int) : Result := if lo ≤ x ∧ x ≤ hi then .ok else .adjusted
    (∀ cls : Byte,
      let refused (field : Byte) : Prop := exec (.setJobClass p cls field v) s
        = .next (s.finish p 0x73 ⟨.refusedRange, cls.toNat⟩)
      (∀ k : Fin 8, cls.toNat = k →
        let written (c : JobClass) (r : Result) : Answer := .next (({ s with setpoints := { s.setpoints with
          classes := s.setpoints.classes.set k c } } : State).finish p 0x73 ⟨r, cls.toNat⟩)
        let c := s.setpoints.classes[k]
        (∀ entry ∈ ([(0, 0, 4000, fun y => { c with millDepth := y }),
            (1, 5000, 12000, fun y => { c with hingeOffset := y }), (2, 0, 1500, fun y => { c with glueAllow := y }),
            (3, 0, 800, fun y => { c with nipSqueeze := y }), (4, 0, 20000, fun y => { c with spineMargin := y }),
            (5, 0, 40000, fun y => { c with sideMargin := y }), (7, 5000, 300000, fun y => { c with coolBase := y }),
            (8, 0, 10000, fun y => { c with coolPerMm := y })] : List (Byte × Int × Int × (Nat → JobClass))),
          exec (.setJobClass p cls entry.1 v) s
            = written (entry.2.2.2 (into entry.2.1 entry.2.2.1)) (result entry.2.1 entry.2.2.1))
        ∧ (x = 0 → exec (.setJobClass p cls 6 v) s = written { c with sideUsed := false } .ok)
        ∧ (x = 1 → exec (.setJobClass p cls 6 v) s = written { c with sideUsed := true } .ok)
        ∧ (x < 0 ∨ 1 < x → refused 6)
        ∧ ∀ field : Byte, 9 ≤ field.toNat → refused field)
      ∧ (8 ≤ cls.toNat → ∀ field : Byte, refused field))
    ∧ (let gauged (g : GaugeCal) (r : Result) : Answer :=
        .next (({ s with setpoints := { s.setpoints with gauge := g } } : State).finish p 0x74 ⟨r, 0⟩)
      let g := s.setpoints.gauge
      (x = 0 → exec (.setGaugeCal p 0 v) s = gauged { g with sign := .add } .ok)
      ∧ (x = 1 → exec (.setGaugeCal p 0 v) s = gauged { g with sign := .subtract } .ok)
      ∧ (x < 0 ∨ 1 < x → exec (.setGaugeCal p 0 v) s = .next (s.finish p 0x74 ⟨.refusedRange, 0⟩))
      ∧ exec (.setGaugeCal p 1 v) s = gauged { g with shift := into 0 7 } (result 0 7)
      ∧ exec (.setGaugeCal p 2 v) s
          = gauged { g with offset := max (-2000) (min 2000 x) } (result (-2000) 2000)
      ∧ exec (.setGaugeCal p 3 v) s = gauged { g with spreadLimit := into 0 5000 } (result 0 5000)
      ∧ ∀ field : Byte, 4 ≤ field.toNat →
        exec (.setGaugeCal p field v) s = .next (s.finish p 0x74 ⟨.refusedRange, 0⟩))
    ∧ (let t := s.timers
      (∀ entry ∈ ([(0, 50, 5000, fun y => { t with sealIdle := y }), (1, 50, 2000, fun y => { t with standstill := y }),
          (2, 0, 60000, fun y => { t with glueSettle := y }), (3, 60, 3600, fun y => { t with heatUp := y }),
          (4, 500, 10000, fun y => { t with stale := y }), (5, 500, 15000, fun y => { t with openLimit := y }),
          (6, 0, 10000, fun y => { t with liftWindow := y }),
          (7, 1000, 120000, fun y => { t with trimTimeout := y })] : List (Byte × Int × Int × (Nat → Timers))),
        exec (.setTimers p entry.1 v) s = .next (({ s with
          timers := entry.2.2.2 (into entry.2.1 entry.2.2.1) } : State).finish p 0x76
            ⟨result entry.2.1 entry.2.2.1, 0⟩))
      ∧ ∀ field : Byte, 8 ≤ field.toNat →
        exec (.setTimers p field v) s = .next (s.finish p 0x76 ⟨.refusedRange, 0⟩))
    ∧ (let l := s.lifting.limits
      (s.lifting.lifts ≠ [] → ∀ field : Byte,
        exec (.setLiftLimits p field v) s = .next (s.finish p 0x77 ⟨.refusedMode, 0⟩))
      ∧ (s.lifting.lifts = [] →
        (∀ entry ∈ ([(0, 1, 16, fun y => { l with maxCount := y }),
            (1, 10000, 150000, fun y => { l with maxHeight := y }),
            (2, 0, 2000, fun y => { l with tolerance := y })] : List (Byte × Int × Int × (Nat → LiftLimits))),
          exec (.setLiftLimits p entry.1 v) s = .next (({ s with lifting := { s.lifting with
            limits := entry.2.2.2 (into entry.2.1 entry.2.2.1) } } : State).finish p 0x77
              ⟨result entry.2.1 entry.2.2.1, 0⟩))
        ∧ ∀ field : Byte, 3 ≤ field.toNat →
          exec (.setLiftLimits p field v) s = .next (s.finish p 0x77 ⟨.refusedRange, 0⟩)))

/-! ### Invariants of every step -/

/-- R11, R24, R25, R85, R141, R142, R144: every step keeps the standstill timer, the halt cause, the further-cause
flag, the cam windows, the forces and the presence latch in agreement with the line mode; R185: and the part held in
reset exactly while a reset source stands. -/
def Obligations.StepKeepsLineModeSound : Prop :=
  ∀ s t : State, s.LineModeSound → step s = .next t → t.LineModeSound

/-- R1, R7, R13: every step keeps the geometry within its ranges, the phase below E, the clamp index below N, and,
while the line is started, the home phase below E and the lag at or below the reverse tolerance. -/
def Obligations.StepKeepsPositionSound : Prop :=
  ∀ s t : State, s.PositionSound → step s = .next t → t.PositionSound

/-- R29, R32, R48, R50, R80, R158: every step keeps the bounds of the clamp map, the announce queue, the reject
list, the lift list and the samples of each book, and fewer than eight bits of a byte not yet complete on each port
(R190). R114 to R121: every step keeps each pot's timers in agreement with
its state, a disabled pot UNKNOWN and the filtered value within 0 to 4,000. -/
def Obligations.StepKeepsTablesAndPotsSound : Prop :=
  (∀ s t : State, s.TablesSound → step s = .next t → t.TablesSound)
  ∧ ∀ s t : State, s.PotsSound → step s = .next t → t.PotsSound

/-- R28: every step keeps the serials of the live books distinct and within 1 to 65,535. -/
def Obligations.StepKeepsSerialsSound : Prop :=
  ∀ s t : State, s.SerialsSound → step s = .next t → t.SerialsSound

/-- R52, R87, R158 to R162: every step keeps occupancy within the downstream capacity and the lift list in its form:
at most 4 lifts of distinct numbers, a DISPATCHED lift first, an OPEN lift last, each of 1 to max count books, the
window timer running in OPEN alone and the trim timer in DISPATCHED alone. -/
def Obligations.StepKeepsOccupancySound : Prop :=
  ∀ s t : State, s.OccupancySound → step s = .next t → t.OccupancySound
end

