-- ==== Sys2Proof/Laws/State.lean ====
section
/-!
SUPPORT. What each named operation leaves alone: for every operation one lemma, an equation for each block of the state
that the operation does not touch, all in the simp set, so that no later proof unfolds a record update to see that a
block is unchanged.
-/

namespace Sys2Proof.Machine

@[simp] theorem State.modifyPort_frame (s : State) (p : PortId) (f : Port → Port) :
    (s.modifyPort p f).now = s.now ∧ (s.modifyPort p f).clock = s.clock ∧ (s.modifyPort p f).timers = s.timers
    ∧ (s.modifyPort p f).books = s.books ∧ (s.modifyPort p f).setpoints = s.setpoints
    ∧ (s.modifyPort p f).carousel = s.carousel ∧ (s.modifyPort p f).due = s.due
    ∧ (s.modifyPort p f).glue = s.glue ∧ (s.modifyPort p f).cams = s.cams
    ∧ (s.modifyPort p f).delivery = s.delivery ∧ (s.modifyPort p f).lifting = s.lifting
    ∧ (s.modifyPort p f).stoppage = s.stoppage ∧ (s.modifyPort p f).wires = s.wires
    ∧ (s.modifyPort p f).arriving = s.arriving ∧ (s.modifyPort p f).pending = s.pending :=
  by and_intros <;> rfl

@[simp] theorem State.raise_frame (s : State) (c : Attention) :
    (s.raise c).now = s.now ∧ (s.raise c).clock = s.clock ∧ (s.raise c).timers = s.timers
    ∧ (s.raise c).books = s.books ∧ (s.raise c).setpoints = s.setpoints ∧ (s.raise c).carousel = s.carousel
    ∧ (s.raise c).due = s.due ∧ (s.raise c).glue = s.glue ∧ (s.raise c).cams = s.cams
    ∧ (s.raise c).delivery = s.delivery ∧ (s.raise c).lifting = s.lifting ∧ (s.raise c).stoppage = s.stoppage
    ∧ (s.raise c).wires = s.wires
    ∧ (s.raise c).arriving = s.arriving ∧ (s.raise c).pending = s.pending :=
  by and_intros <;> rfl

@[simp] theorem State.finish_frame (s : State) (p : PortId) (code : Byte) (r : Reply) :
    (s.finish p code r).now = s.now ∧ (s.finish p code r).clock = s.clock
    ∧ (s.finish p code r).timers = s.timers ∧ (s.finish p code r).books = s.books
    ∧ (s.finish p code r).setpoints = s.setpoints ∧ (s.finish p code r).carousel = s.carousel
    ∧ (s.finish p code r).due = s.due ∧ (s.finish p code r).glue = s.glue ∧ (s.finish p code r).cams = s.cams
    ∧ (s.finish p code r).delivery = s.delivery ∧ (s.finish p code r).lifting = s.lifting
    ∧ (s.finish p code r).stoppage = s.stoppage ∧ (s.finish p code r).wires = s.wires
    ∧ (s.finish p code r).arriving = s.arriving ∧ (s.finish p code r).pending = s.pending :=
  by and_intros <;> rfl

@[simp] theorem State.mapBook_frame (s : State) (serial : Nat) (f : Book → Book) :
    (s.mapBook serial f).now = s.now ∧ (s.mapBook serial f).clock = s.clock
    ∧ (s.mapBook serial f).timers = s.timers ∧ (s.mapBook serial f).setpoints = s.setpoints
    ∧ (s.mapBook serial f).carousel = s.carousel ∧ (s.mapBook serial f).due = s.due
    ∧ (s.mapBook serial f).glue = s.glue ∧ (s.mapBook serial f).cams = s.cams
    ∧ (s.mapBook serial f).delivery = s.delivery ∧ (s.mapBook serial f).lifting = s.lifting
    ∧ (s.mapBook serial f).stoppage = s.stoppage ∧ (s.mapBook serial f).ports = s.ports
    ∧ (s.mapBook serial f).wires = s.wires
    ∧ (s.mapBook serial f).arriving = s.arriving ∧ (s.mapBook serial f).pending = s.pending :=
  by and_intros <;> rfl

@[simp] theorem State.freeBook_frame (s : State) (serial : Nat) :
    (s.freeBook serial).now = s.now ∧ (s.freeBook serial).clock = s.clock
    ∧ (s.freeBook serial).timers = s.timers ∧ (s.freeBook serial).setpoints = s.setpoints
    ∧ (s.freeBook serial).carousel = s.carousel ∧ (s.freeBook serial).due = s.due
    ∧ (s.freeBook serial).glue = s.glue ∧ (s.freeBook serial).cams = s.cams
    ∧ (s.freeBook serial).delivery = s.delivery ∧ (s.freeBook serial).lifting = s.lifting
    ∧ (s.freeBook serial).stoppage = s.stoppage ∧ (s.freeBook serial).ports = s.ports
    ∧ (s.freeBook serial).wires = s.wires
    ∧ (s.freeBook serial).arriving = s.arriving ∧ (s.freeBook serial).pending = s.pending :=
  by and_intros <;> rfl

@[simp] theorem State.setCause_frame (s : State) (serial : Nat) (c : RejectCause) :
    (s.setCause serial c).now = s.now ∧ (s.setCause serial c).clock = s.clock
    ∧ (s.setCause serial c).timers = s.timers ∧ (s.setCause serial c).setpoints = s.setpoints
    ∧ (s.setCause serial c).carousel = s.carousel ∧ (s.setCause serial c).glue = s.glue
    ∧ (s.setCause serial c).cams = s.cams ∧ (s.setCause serial c).delivery = s.delivery
    ∧ (s.setCause serial c).lifting = s.lifting ∧ (s.setCause serial c).stoppage = s.stoppage
    ∧ (s.setCause serial c).ports = s.ports ∧ (s.setCause serial c).wires = s.wires
    ∧ (s.setCause serial c).arriving = s.arriving ∧ (s.setCause serial c).pending = s.pending :=
  by and_intros <;> rfl

@[simp] theorem State.beginWindow_frame (s : State) (ch : Fin 8) (clamp start length : Nat) :
    (s.beginWindow ch clamp start length).now = s.now ∧ (s.beginWindow ch clamp start length).clock = s.clock
    ∧ (s.beginWindow ch clamp start length).timers = s.timers
    ∧ (s.beginWindow ch clamp start length).books = s.books
    ∧ (s.beginWindow ch clamp start length).setpoints = s.setpoints
    ∧ (s.beginWindow ch clamp start length).carousel = s.carousel
    ∧ (s.beginWindow ch clamp start length).due = s.due ∧ (s.beginWindow ch clamp start length).glue = s.glue
    ∧ (s.beginWindow ch clamp start length).delivery = s.delivery
    ∧ (s.beginWindow ch clamp start length).lifting = s.lifting
    ∧ (s.beginWindow ch clamp start length).stoppage = s.stoppage
    ∧ (s.beginWindow ch clamp start length).ports = s.ports
    ∧ (s.beginWindow ch clamp start length).wires = s.wires
    ∧ (s.beginWindow ch clamp start length).arriving = s.arriving
    ∧ (s.beginWindow ch clamp start length).pending = s.pending :=
  by and_intros <;> rfl

@[simp] theorem State.beginFixed_frame (s : State) (ch : Fin 8) (clamp : Nat) :
    (s.beginFixed ch clamp).now = s.now ∧ (s.beginFixed ch clamp).clock = s.clock
    ∧ (s.beginFixed ch clamp).timers = s.timers ∧ (s.beginFixed ch clamp).books = s.books
    ∧ (s.beginFixed ch clamp).setpoints = s.setpoints ∧ (s.beginFixed ch clamp).carousel = s.carousel
    ∧ (s.beginFixed ch clamp).due = s.due ∧ (s.beginFixed ch clamp).glue = s.glue
    ∧ (s.beginFixed ch clamp).delivery = s.delivery ∧ (s.beginFixed ch clamp).lifting = s.lifting
    ∧ (s.beginFixed ch clamp).stoppage = s.stoppage ∧ (s.beginFixed ch clamp).ports = s.ports
    ∧ (s.beginFixed ch clamp).wires = s.wires
    ∧ (s.beginFixed ch clamp).arriving = s.arriving ∧ (s.beginFixed ch clamp).pending = s.pending :=
  by and_intros <;> rfl

@[simp] theorem State.beginGlue_frame (s : State) (ch : Fin 8) (clamp e : Nat) (w : GlueWindow) :
    (s.beginGlue ch clamp e w).now = s.now ∧ (s.beginGlue ch clamp e w).clock = s.clock
    ∧ (s.beginGlue ch clamp e w).timers = s.timers ∧ (s.beginGlue ch clamp e w).books = s.books
    ∧ (s.beginGlue ch clamp e w).setpoints = s.setpoints ∧ (s.beginGlue ch clamp e w).carousel = s.carousel
    ∧ (s.beginGlue ch clamp e w).due = s.due ∧ (s.beginGlue ch clamp e w).glue = s.glue
    ∧ (s.beginGlue ch clamp e w).delivery = s.delivery ∧ (s.beginGlue ch clamp e w).lifting = s.lifting
    ∧ (s.beginGlue ch clamp e w).stoppage = s.stoppage ∧ (s.beginGlue ch clamp e w).ports = s.ports
    ∧ (s.beginGlue ch clamp e w).wires = s.wires
    ∧ (s.beginGlue ch clamp e w).arriving = s.arriving ∧ (s.beginGlue ch clamp e w).pending = s.pending :=
  by and_intros <;> rfl

@[simp] theorem State.setCauseInClamp_frame (s : State) (clamp : Nat) (c : RejectCause) :
    (s.setCauseInClamp clamp c).now = s.now ∧ (s.setCauseInClamp clamp c).clock = s.clock
    ∧ (s.setCauseInClamp clamp c).timers = s.timers ∧ (s.setCauseInClamp clamp c).setpoints = s.setpoints
    ∧ (s.setCauseInClamp clamp c).carousel = s.carousel ∧ (s.setCauseInClamp clamp c).glue = s.glue
    ∧ (s.setCauseInClamp clamp c).cams = s.cams ∧ (s.setCauseInClamp clamp c).delivery = s.delivery
    ∧ (s.setCauseInClamp clamp c).lifting = s.lifting ∧ (s.setCauseInClamp clamp c).stoppage = s.stoppage
    ∧ (s.setCauseInClamp clamp c).ports = s.ports ∧ (s.setCauseInClamp clamp c).wires = s.wires
    ∧ (s.setCauseInClamp clamp c).arriving = s.arriving ∧ (s.setCauseInClamp clamp c).pending = s.pending :=
  by unfold State.setCauseInClamp; split <;> and_intros <;> rfl

@[simp] theorem State.cutGlueWindow_frame (s : State) (ch : Fin 8) :
    (s.cutGlueWindow ch).now = s.now ∧ (s.cutGlueWindow ch).clock = s.clock
    ∧ (s.cutGlueWindow ch).timers = s.timers ∧ (s.cutGlueWindow ch).setpoints = s.setpoints
    ∧ (s.cutGlueWindow ch).carousel = s.carousel ∧ (s.cutGlueWindow ch).glue = s.glue
    ∧ (s.cutGlueWindow ch).delivery = s.delivery ∧ (s.cutGlueWindow ch).lifting = s.lifting
    ∧ (s.cutGlueWindow ch).stoppage = s.stoppage ∧ (s.cutGlueWindow ch).ports = s.ports
    ∧ (s.cutGlueWindow ch).wires = s.wires
    ∧ (s.cutGlueWindow ch).arriving = s.arriving ∧ (s.cutGlueWindow ch).pending = s.pending :=
  by unfold State.cutGlueWindow; split <;> simp

@[simp] theorem State.cutGlueWindows_frame (s : State) :
    (s.cutGlueWindows).now = s.now ∧ (s.cutGlueWindows).clock = s.clock ∧ (s.cutGlueWindows).timers = s.timers
    ∧ (s.cutGlueWindows).setpoints = s.setpoints ∧ (s.cutGlueWindows).carousel = s.carousel
    ∧ (s.cutGlueWindows).glue = s.glue ∧ (s.cutGlueWindows).delivery = s.delivery
    ∧ (s.cutGlueWindows).lifting = s.lifting ∧ (s.cutGlueWindows).stoppage = s.stoppage
    ∧ (s.cutGlueWindows).ports = s.ports ∧ (s.cutGlueWindows).wires = s.wires
    ∧ (s.cutGlueWindows).arriving = s.arriving ∧ (s.cutGlueWindows).pending = s.pending :=
  by simp [State.cutGlueWindows]

@[simp] theorem State.endWindows_frame (s : State) :
    (s.endWindows).now = s.now ∧ (s.endWindows).clock = s.clock ∧ (s.endWindows).timers = s.timers
    ∧ (s.endWindows).books = s.books ∧ (s.endWindows).setpoints = s.setpoints
    ∧ (s.endWindows).carousel = s.carousel ∧ (s.endWindows).due = s.due ∧ (s.endWindows).glue = s.glue
    ∧ (s.endWindows).delivery = s.delivery ∧ (s.endWindows).lifting = s.lifting
    ∧ (s.endWindows).stoppage = s.stoppage ∧ (s.endWindows).ports = s.ports ∧ (s.endWindows).wires = s.wires
    ∧ (s.endWindows).arriving = s.arriving ∧ (s.endWindows).pending = s.pending :=
  by and_intros <;> rfl

@[simp] theorem State.releaseForces_frame (s : State) :
    (s.releaseForces).now = s.now ∧ (s.releaseForces).clock = s.clock ∧ (s.releaseForces).timers = s.timers
    ∧ (s.releaseForces).books = s.books ∧ (s.releaseForces).setpoints = s.setpoints
    ∧ (s.releaseForces).carousel = s.carousel ∧ (s.releaseForces).due = s.due ∧ (s.releaseForces).glue = s.glue
    ∧ (s.releaseForces).delivery = s.delivery ∧ (s.releaseForces).lifting = s.lifting
    ∧ (s.releaseForces).stoppage = s.stoppage ∧ (s.releaseForces).ports = s.ports
    ∧ (s.releaseForces).wires = s.wires
    ∧ (s.releaseForces).arriving = s.arriving ∧ (s.releaseForces).pending = s.pending :=
  by and_intros <;> rfl

@[simp] theorem State.enterMode_frame (s : State) (m : LineMode) :
    (s.enterMode m).now = s.now ∧ (s.enterMode m).timers = s.timers ∧ (s.enterMode m).books = s.books
    ∧ (s.enterMode m).setpoints = s.setpoints ∧ (s.enterMode m).carousel = s.carousel
    ∧ (s.enterMode m).due = s.due ∧ (s.enterMode m).glue = s.glue ∧ (s.enterMode m).cams = s.cams
    ∧ (s.enterMode m).delivery = s.delivery ∧ (s.enterMode m).lifting = s.lifting
    ∧ (s.enterMode m).wires = s.wires
    ∧ (s.enterMode m).arriving = s.arriving ∧ (s.enterMode m).pending = s.pending :=
  by and_intros <;> rfl

@[simp] theorem State.startStandstill_frame (s : State) :
    (s.startStandstill).now = s.now ∧ (s.startStandstill).timers = s.timers
    ∧ (s.startStandstill).books = s.books ∧ (s.startStandstill).setpoints = s.setpoints
    ∧ (s.startStandstill).carousel = s.carousel ∧ (s.startStandstill).due = s.due
    ∧ (s.startStandstill).glue = s.glue ∧ (s.startStandstill).cams = s.cams
    ∧ (s.startStandstill).delivery = s.delivery ∧ (s.startStandstill).lifting = s.lifting
    ∧ (s.startStandstill).stoppage = s.stoppage ∧ (s.startStandstill).ports = s.ports
    ∧ (s.startStandstill).wires = s.wires
    ∧ (s.startStandstill).arriving = s.arriving ∧ (s.startStandstill).pending = s.pending :=
  by and_intros <;> rfl

@[simp] theorem State.stopStandstill_frame (s : State) :
    (s.stopStandstill).now = s.now ∧ (s.stopStandstill).timers = s.timers ∧ (s.stopStandstill).books = s.books
    ∧ (s.stopStandstill).setpoints = s.setpoints ∧ (s.stopStandstill).carousel = s.carousel
    ∧ (s.stopStandstill).due = s.due ∧ (s.stopStandstill).glue = s.glue ∧ (s.stopStandstill).cams = s.cams
    ∧ (s.stopStandstill).delivery = s.delivery ∧ (s.stopStandstill).lifting = s.lifting
    ∧ (s.stopStandstill).stoppage = s.stoppage ∧ (s.stopStandstill).ports = s.ports
    ∧ (s.stopStandstill).wires = s.wires
    ∧ (s.stopStandstill).arriving = s.arriving ∧ (s.stopStandstill).pending = s.pending :=
  by and_intros <;> rfl

@[simp] theorem State.enterSetup_frame (s : State) :
    (s.enterSetup).now = s.now ∧ (s.enterSetup).timers = s.timers ∧ (s.enterSetup).books = s.books
    ∧ (s.enterSetup).setpoints = s.setpoints ∧ (s.enterSetup).carousel = s.carousel ∧ (s.enterSetup).due = s.due
    ∧ (s.enterSetup).glue = s.glue ∧ (s.enterSetup).delivery = s.delivery ∧ (s.enterSetup).lifting = s.lifting
    ∧ (s.enterSetup).wires = s.wires
    ∧ (s.enterSetup).arriving = s.arriving ∧ (s.enterSetup).pending = s.pending :=
  by and_intros <;> rfl

@[simp] theorem State.returnFromHold_frame (s : State) (r : ReturnMode) :
    (s.returnFromHold r).now = s.now ∧ (s.returnFromHold r).timers = s.timers
    ∧ (s.returnFromHold r).books = s.books ∧ (s.returnFromHold r).setpoints = s.setpoints
    ∧ (s.returnFromHold r).carousel = s.carousel ∧ (s.returnFromHold r).due = s.due
    ∧ (s.returnFromHold r).glue = s.glue ∧ (s.returnFromHold r).delivery = s.delivery
    ∧ (s.returnFromHold r).lifting = s.lifting ∧ (s.returnFromHold r).wires = s.wires
    ∧ (s.returnFromHold r).arriving = s.arriving ∧ (s.returnFromHold r).pending = s.pending :=
  by
  cases r
  · and_intros <;> rfl
  · unfold State.returnFromHold; dsimp only; split <;> simp

@[simp] theorem State.enterHold_frame (s : State) (k : HoldKind) (r : ReturnMode) :
    (s.enterHold k r).now = s.now ∧ (s.enterHold k r).timers = s.timers
    ∧ (s.enterHold k r).setpoints = s.setpoints ∧ (s.enterHold k r).carousel = s.carousel
    ∧ (s.enterHold k r).glue = s.glue ∧ (s.enterHold k r).delivery = s.delivery
    ∧ (s.enterHold k r).lifting = s.lifting ∧ (s.enterHold k r).wires = s.wires
    ∧ (s.enterHold k r).arriving = s.arriving ∧ (s.enterHold k r).pending = s.pending :=
  by simp [State.enterHold]

@[simp] theorem State.markSuspects_frame (s : State) :
    (s.markSuspects).now = s.now ∧ (s.markSuspects).clock = s.clock ∧ (s.markSuspects).timers = s.timers
    ∧ (s.markSuspects).setpoints = s.setpoints ∧ (s.markSuspects).carousel = s.carousel
    ∧ (s.markSuspects).due = s.due ∧ (s.markSuspects).glue = s.glue ∧ (s.markSuspects).cams = s.cams
    ∧ (s.markSuspects).delivery = s.delivery ∧ (s.markSuspects).lifting = s.lifting
    ∧ (s.markSuspects).stoppage = s.stoppage ∧ (s.markSuspects).ports = s.ports
    ∧ (s.markSuspects).wires = s.wires
    ∧ (s.markSuspects).arriving = s.arriving ∧ (s.markSuspects).pending = s.pending :=
  by and_intros <;> rfl

@[simp] theorem State.enterHalted_frame (s : State) (c : HaltCause) :
    (s.enterHalted c).now = s.now ∧ (s.enterHalted c).timers = s.timers
    ∧ (s.enterHalted c).setpoints = s.setpoints ∧ (s.enterHalted c).glue = s.glue
    ∧ (s.enterHalted c).delivery = s.delivery ∧ (s.enterHalted c).lifting = s.lifting
    ∧ (s.enterHalted c).wires = s.wires
    ∧ (s.enterHalted c).arriving = s.arriving ∧ (s.enterHalted c).pending = s.pending :=
  by simp [State.enterHalted]

@[simp] theorem State.takeHaltCause_frame (s : State) (c : HaltCause) :
    (s.takeHaltCause c).now = s.now ∧ (s.takeHaltCause c).timers = s.timers
    ∧ (s.takeHaltCause c).setpoints = s.setpoints ∧ (s.takeHaltCause c).glue = s.glue
    ∧ (s.takeHaltCause c).delivery = s.delivery ∧ (s.takeHaltCause c).lifting = s.lifting
    ∧ (s.takeHaltCause c).wires = s.wires
    ∧ (s.takeHaltCause c).arriving = s.arriving ∧ (s.takeHaltCause c).pending = s.pending :=
  by unfold State.takeHaltCause; split <;> (try split) <;> simp

@[simp] theorem State.emptyClamp_frame (s : State) (clamp : Nat) :
    (s.emptyClamp clamp).now = s.now ∧ (s.emptyClamp clamp).timers = s.timers
    ∧ (s.emptyClamp clamp).books = s.books ∧ (s.emptyClamp clamp).setpoints = s.setpoints
    ∧ (s.emptyClamp clamp).due = s.due ∧ (s.emptyClamp clamp).glue = s.glue
    ∧ (s.emptyClamp clamp).delivery = s.delivery ∧ (s.emptyClamp clamp).lifting = s.lifting
    ∧ (s.emptyClamp clamp).wires = s.wires
    ∧ (s.emptyClamp clamp).arriving = s.arriving ∧ (s.emptyClamp clamp).pending = s.pending :=
  by unfold State.emptyClamp; dsimp only; split <;> and_intros <;> rfl

@[simp] theorem State.appendReject_frame (s : State) (e : RejectEntry) :
    (s.appendReject e).now = s.now ∧ (s.appendReject e).clock = s.clock ∧ (s.appendReject e).timers = s.timers
    ∧ (s.appendReject e).setpoints = s.setpoints ∧ (s.appendReject e).carousel = s.carousel
    ∧ (s.appendReject e).due = s.due ∧ (s.appendReject e).glue = s.glue ∧ (s.appendReject e).cams = s.cams
    ∧ (s.appendReject e).delivery = s.delivery ∧ (s.appendReject e).lifting = s.lifting
    ∧ (s.appendReject e).stoppage = s.stoppage ∧ (s.appendReject e).wires = s.wires
    ∧ (s.appendReject e).arriving = s.arriving ∧ (s.appendReject e).pending = s.pending :=
  by and_intros <;> rfl

@[simp] theorem State.retireRejected_frame (s : State) (serial : Nat) (w : Where) (c : RejectCause) :
    (s.retireRejected serial w c).now = s.now ∧ (s.retireRejected serial w c).clock = s.clock
    ∧ (s.retireRejected serial w c).timers = s.timers ∧ (s.retireRejected serial w c).setpoints = s.setpoints
    ∧ (s.retireRejected serial w c).carousel = s.carousel ∧ (s.retireRejected serial w c).due = s.due
    ∧ (s.retireRejected serial w c).glue = s.glue ∧ (s.retireRejected serial w c).cams = s.cams
    ∧ (s.retireRejected serial w c).delivery = s.delivery ∧ (s.retireRejected serial w c).lifting = s.lifting
    ∧ (s.retireRejected serial w c).stoppage = s.stoppage ∧ (s.retireRejected serial w c).wires = s.wires
    ∧ (s.retireRejected serial w c).arriving = s.arriving ∧ (s.retireRejected serial w c).pending = s.pending :=
  by unfold State.retireRejected; split <;> and_intros <;> rfl

@[simp] theorem State.retireDone_frame (s : State) (serial : Nat) :
    (s.retireDone serial).now = s.now ∧ (s.retireDone serial).clock = s.clock
    ∧ (s.retireDone serial).timers = s.timers ∧ (s.retireDone serial).setpoints = s.setpoints
    ∧ (s.retireDone serial).carousel = s.carousel ∧ (s.retireDone serial).due = s.due
    ∧ (s.retireDone serial).glue = s.glue ∧ (s.retireDone serial).cams = s.cams
    ∧ (s.retireDone serial).delivery = s.delivery ∧ (s.retireDone serial).lifting = s.lifting
    ∧ (s.retireDone serial).stoppage = s.stoppage ∧ (s.retireDone serial).ports = s.ports
    ∧ (s.retireDone serial).wires = s.wires
    ∧ (s.retireDone serial).arriving = s.arriving ∧ (s.retireDone serial).pending = s.pending :=
  by and_intros <;> rfl

@[simp] theorem State.retireWithdrawn_frame (s : State) (serial : Nat) :
    (s.retireWithdrawn serial).now = s.now ∧ (s.retireWithdrawn serial).clock = s.clock
    ∧ (s.retireWithdrawn serial).timers = s.timers ∧ (s.retireWithdrawn serial).setpoints = s.setpoints
    ∧ (s.retireWithdrawn serial).carousel = s.carousel ∧ (s.retireWithdrawn serial).due = s.due
    ∧ (s.retireWithdrawn serial).glue = s.glue ∧ (s.retireWithdrawn serial).cams = s.cams
    ∧ (s.retireWithdrawn serial).delivery = s.delivery ∧ (s.retireWithdrawn serial).lifting = s.lifting
    ∧ (s.retireWithdrawn serial).stoppage = s.stoppage ∧ (s.retireWithdrawn serial).ports = s.ports
    ∧ (s.retireWithdrawn serial).wires = s.wires
    ∧ (s.retireWithdrawn serial).arriving = s.arriving ∧ (s.retireWithdrawn serial).pending = s.pending :=
  by and_intros <;> rfl

@[simp] theorem State.raiseSpace_frame (s : State) (n : Nat) :
    (s.raiseSpace n).now = s.now ∧ (s.raiseSpace n).clock = s.clock ∧ (s.raiseSpace n).timers = s.timers
    ∧ (s.raiseSpace n).books = s.books ∧ (s.raiseSpace n).setpoints = s.setpoints
    ∧ (s.raiseSpace n).carousel = s.carousel ∧ (s.raiseSpace n).due = s.due ∧ (s.raiseSpace n).glue = s.glue
    ∧ (s.raiseSpace n).cams = s.cams ∧ (s.raiseSpace n).delivery = s.delivery
    ∧ (s.raiseSpace n).lifting = s.lifting ∧ (s.raiseSpace n).stoppage = s.stoppage
    ∧ (s.raiseSpace n).wires = s.wires
    ∧ (s.raiseSpace n).arriving = s.arriving ∧ (s.raiseSpace n).pending = s.pending :=
  by unfold State.raiseSpace; split <;> and_intros <;> rfl

@[simp] theorem State.modifyPot_frame (s : State) (id : PotId) (f : Pot → Pot) :
    (s.modifyPot id f).now = s.now ∧ (s.modifyPot id f).clock = s.clock ∧ (s.modifyPot id f).timers = s.timers
    ∧ (s.modifyPot id f).books = s.books ∧ (s.modifyPot id f).setpoints = s.setpoints
    ∧ (s.modifyPot id f).carousel = s.carousel ∧ (s.modifyPot id f).due = s.due
    ∧ (s.modifyPot id f).cams = s.cams ∧ (s.modifyPot id f).delivery = s.delivery
    ∧ (s.modifyPot id f).lifting = s.lifting ∧ (s.modifyPot id f).stoppage = s.stoppage
    ∧ (s.modifyPot id f).ports = s.ports ∧ (s.modifyPot id f).wires = s.wires
    ∧ (s.modifyPot id f).arriving = s.arriving ∧ (s.modifyPot id f).pending = s.pending :=
  by cases id <;> and_intros <;> rfl

@[simp] theorem State.enterPotState_frame (s : State) (id : PotId) (st : PotState) :
    (s.enterPotState id st).now = s.now ∧ (s.enterPotState id st).clock = s.clock
    ∧ (s.enterPotState id st).timers = s.timers ∧ (s.enterPotState id st).books = s.books
    ∧ (s.enterPotState id st).setpoints = s.setpoints ∧ (s.enterPotState id st).carousel = s.carousel
    ∧ (s.enterPotState id st).due = s.due ∧ (s.enterPotState id st).cams = s.cams
    ∧ (s.enterPotState id st).delivery = s.delivery ∧ (s.enterPotState id st).lifting = s.lifting
    ∧ (s.enterPotState id st).stoppage = s.stoppage ∧ (s.enterPotState id st).wires = s.wires
    ∧ (s.enterPotState id st).arriving = s.arriving ∧ (s.enterPotState id st).pending = s.pending :=
  by simp [State.enterPotState]

@[simp] theorem State.changePot_frame (s : State) (id : PotId) (st : PotState) :
    (s.changePot id st).now = s.now ∧ (s.changePot id st).clock = s.clock
    ∧ (s.changePot id st).timers = s.timers ∧ (s.changePot id st).books = s.books
    ∧ (s.changePot id st).setpoints = s.setpoints ∧ (s.changePot id st).carousel = s.carousel
    ∧ (s.changePot id st).due = s.due ∧ (s.changePot id st).cams = s.cams
    ∧ (s.changePot id st).delivery = s.delivery ∧ (s.changePot id st).lifting = s.lifting
    ∧ (s.changePot id st).stoppage = s.stoppage ∧ (s.changePot id st).wires = s.wires
    ∧ (s.changePot id st).arriving = s.arriving ∧ (s.changePot id st).pending = s.pending :=
  by unfold State.changePot; split <;> (try split) <;> simp

@[simp] theorem State.takeReading_frame (s : State) (id : PotId) (raw : Nat) :
    (s.takeReading id raw).now = s.now ∧ (s.takeReading id raw).clock = s.clock
    ∧ (s.takeReading id raw).timers = s.timers ∧ (s.takeReading id raw).books = s.books
    ∧ (s.takeReading id raw).setpoints = s.setpoints ∧ (s.takeReading id raw).carousel = s.carousel
    ∧ (s.takeReading id raw).due = s.due ∧ (s.takeReading id raw).cams = s.cams
    ∧ (s.takeReading id raw).delivery = s.delivery ∧ (s.takeReading id raw).lifting = s.lifting
    ∧ (s.takeReading id raw).stoppage = s.stoppage ∧ (s.takeReading id raw).wires = s.wires
    ∧ (s.takeReading id raw).arriving = s.arriving ∧ (s.takeReading id raw).pending = s.pending :=
  by unfold State.takeReading; dsimp only; split <;> simp

@[simp] theorem State.leaveDue_frame (s : State) (serial : Nat) :
    (s.leaveDue serial).now = s.now ∧ (s.leaveDue serial).clock = s.clock
    ∧ (s.leaveDue serial).timers = s.timers ∧ (s.leaveDue serial).books = s.books
    ∧ (s.leaveDue serial).setpoints = s.setpoints ∧ (s.leaveDue serial).carousel = s.carousel
    ∧ (s.leaveDue serial).glue = s.glue ∧ (s.leaveDue serial).cams = s.cams
    ∧ (s.leaveDue serial).delivery = s.delivery ∧ (s.leaveDue serial).lifting = s.lifting
    ∧ (s.leaveDue serial).stoppage = s.stoppage ∧ (s.leaveDue serial).ports = s.ports
    ∧ (s.leaveDue serial).wires = s.wires
    ∧ (s.leaveDue serial).arriving = s.arriving ∧ (s.leaveDue serial).pending = s.pending :=
  by and_intros <;> rfl

@[simp] theorem State.joinDue_frame (s : State) (serial : Nat) (want : Bool) :
    (s.joinDue serial want).now = s.now ∧ (s.joinDue serial want).clock = s.clock
    ∧ (s.joinDue serial want).timers = s.timers ∧ (s.joinDue serial want).books = s.books
    ∧ (s.joinDue serial want).setpoints = s.setpoints ∧ (s.joinDue serial want).carousel = s.carousel
    ∧ (s.joinDue serial want).glue = s.glue ∧ (s.joinDue serial want).cams = s.cams
    ∧ (s.joinDue serial want).delivery = s.delivery ∧ (s.joinDue serial want).lifting = s.lifting
    ∧ (s.joinDue serial want).stoppage = s.stoppage ∧ (s.joinDue serial want).wires = s.wires
    ∧ (s.joinDue serial want).arriving = s.arriving ∧ (s.joinDue serial want).pending = s.pending :=
  by and_intros <;> rfl

@[simp] theorem State.sealBook_frame (s : State) (serial : Nat) :
    (s.sealBook serial).now = s.now ∧ (s.sealBook serial).clock = s.clock
    ∧ (s.sealBook serial).timers = s.timers ∧ (s.sealBook serial).setpoints = s.setpoints
    ∧ (s.sealBook serial).carousel = s.carousel ∧ (s.sealBook serial).due = s.due
    ∧ (s.sealBook serial).glue = s.glue ∧ (s.sealBook serial).cams = s.cams
    ∧ (s.sealBook serial).delivery = s.delivery ∧ (s.sealBook serial).lifting = s.lifting
    ∧ (s.sealBook serial).stoppage = s.stoppage ∧ (s.sealBook serial).ports = s.ports
    ∧ (s.sealBook serial).wires = s.wires
    ∧ (s.sealBook serial).arriving = s.arriving ∧ (s.sealBook serial).pending = s.pending :=
  by and_intros <;> rfl

@[simp] theorem State.sealOpenBook_frame (s : State) :
    (s.sealOpenBook).now = s.now ∧ (s.sealOpenBook).clock = s.clock ∧ (s.sealOpenBook).timers = s.timers
    ∧ (s.sealOpenBook).setpoints = s.setpoints ∧ (s.sealOpenBook).carousel = s.carousel
    ∧ (s.sealOpenBook).due = s.due ∧ (s.sealOpenBook).glue = s.glue ∧ (s.sealOpenBook).cams = s.cams
    ∧ (s.sealOpenBook).delivery = s.delivery ∧ (s.sealOpenBook).lifting = s.lifting
    ∧ (s.sealOpenBook).stoppage = s.stoppage ∧ (s.sealOpenBook).ports = s.ports
    ∧ (s.sealOpenBook).wires = s.wires
    ∧ (s.sealOpenBook).arriving = s.arriving ∧ (s.sealOpenBook).pending = s.pending :=
  by unfold State.sealOpenBook; split <;> and_intros <;> rfl

@[simp] theorem State.startSealTimer_frame (s : State) :
    (s.startSealTimer).now = s.now ∧ (s.startSealTimer).clock = s.clock ∧ (s.startSealTimer).timers = s.timers
    ∧ (s.startSealTimer).setpoints = s.setpoints ∧ (s.startSealTimer).carousel = s.carousel
    ∧ (s.startSealTimer).due = s.due ∧ (s.startSealTimer).glue = s.glue ∧ (s.startSealTimer).cams = s.cams
    ∧ (s.startSealTimer).delivery = s.delivery ∧ (s.startSealTimer).lifting = s.lifting
    ∧ (s.startSealTimer).stoppage = s.stoppage ∧ (s.startSealTimer).ports = s.ports
    ∧ (s.startSealTimer).wires = s.wires
    ∧ (s.startSealTimer).arriving = s.arriving ∧ (s.startSealTimer).pending = s.pending :=
  by and_intros <;> rfl

@[simp] theorem State.mapLift_frame (s : State) (n : Nat) (f : Lift → Lift) :
    (s.mapLift n f).now = s.now ∧ (s.mapLift n f).clock = s.clock ∧ (s.mapLift n f).timers = s.timers
    ∧ (s.mapLift n f).books = s.books ∧ (s.mapLift n f).setpoints = s.setpoints
    ∧ (s.mapLift n f).carousel = s.carousel ∧ (s.mapLift n f).due = s.due ∧ (s.mapLift n f).glue = s.glue
    ∧ (s.mapLift n f).cams = s.cams ∧ (s.mapLift n f).delivery = s.delivery
    ∧ (s.mapLift n f).stoppage = s.stoppage ∧ (s.mapLift n f).ports = s.ports
    ∧ (s.mapLift n f).wires = s.wires
    ∧ (s.mapLift n f).arriving = s.arriving ∧ (s.mapLift n f).pending = s.pending :=
  by and_intros <;> rfl

@[simp] theorem State.closeLift_frame (s : State) (n : Nat) :
    (s.closeLift n).now = s.now ∧ (s.closeLift n).clock = s.clock ∧ (s.closeLift n).timers = s.timers
    ∧ (s.closeLift n).books = s.books ∧ (s.closeLift n).setpoints = s.setpoints
    ∧ (s.closeLift n).carousel = s.carousel ∧ (s.closeLift n).due = s.due ∧ (s.closeLift n).glue = s.glue
    ∧ (s.closeLift n).cams = s.cams ∧ (s.closeLift n).delivery = s.delivery
    ∧ (s.closeLift n).stoppage = s.stoppage ∧ (s.closeLift n).wires = s.wires
    ∧ (s.closeLift n).arriving = s.arriving ∧ (s.closeLift n).pending = s.pending :=
  by and_intros <;> rfl

@[simp] theorem State.takeHead_frame (s : State) (serial n : Nat) :
    (s.takeHead serial n).now = s.now ∧ (s.takeHead serial n).clock = s.clock
    ∧ (s.takeHead serial n).timers = s.timers ∧ (s.takeHead serial n).setpoints = s.setpoints
    ∧ (s.takeHead serial n).carousel = s.carousel ∧ (s.takeHead serial n).due = s.due
    ∧ (s.takeHead serial n).glue = s.glue ∧ (s.takeHead serial n).cams = s.cams
    ∧ (s.takeHead serial n).lifting = s.lifting ∧ (s.takeHead serial n).stoppage = s.stoppage
    ∧ (s.takeHead serial n).ports = s.ports ∧ (s.takeHead serial n).wires = s.wires
    ∧ (s.takeHead serial n).arriving = s.arriving ∧ (s.takeHead serial n).pending = s.pending :=
  by and_intros <;> rfl

@[simp] theorem State.joinLift_frame (s : State) (b : Book) (l : Lift) :
    (s.joinLift b l).now = s.now ∧ (s.joinLift b l).clock = s.clock ∧ (s.joinLift b l).timers = s.timers
    ∧ (s.joinLift b l).setpoints = s.setpoints ∧ (s.joinLift b l).carousel = s.carousel
    ∧ (s.joinLift b l).due = s.due ∧ (s.joinLift b l).glue = s.glue ∧ (s.joinLift b l).cams = s.cams
    ∧ (s.joinLift b l).stoppage = s.stoppage ∧ (s.joinLift b l).wires = s.wires
    ∧ (s.joinLift b l).arriving = s.arriving ∧ (s.joinLift b l).pending = s.pending :=
  by unfold State.joinLift; dsimp only; split <;> and_intros <;> rfl

@[simp] theorem State.newLift_frame (s : State) (b : Book) :
    (s.newLift b).now = s.now ∧ (s.newLift b).clock = s.clock ∧ (s.newLift b).timers = s.timers
    ∧ (s.newLift b).setpoints = s.setpoints ∧ (s.newLift b).carousel = s.carousel ∧ (s.newLift b).due = s.due
    ∧ (s.newLift b).glue = s.glue ∧ (s.newLift b).cams = s.cams ∧ (s.newLift b).stoppage = s.stoppage
    ∧ (s.newLift b).wires = s.wires
    ∧ (s.newLift b).arriving = s.arriving ∧ (s.newLift b).pending = s.pending :=
  by unfold State.newLift; dsimp only; split <;> and_intros <;> rfl

@[simp] theorem State.offer_frame (s : State) (b : Book) :
    (s.offer b).1.now = s.now
    ∧ (s.offer b).1.clock = s.clock
    ∧ (s.offer b).1.timers = s.timers
    ∧ (s.offer b).1.setpoints = s.setpoints
    ∧ (s.offer b).1.carousel = s.carousel
    ∧ (s.offer b).1.due = s.due
    ∧ (s.offer b).1.glue = s.glue
    ∧ (s.offer b).1.cams = s.cams
    ∧ (s.offer b).1.stoppage = s.stoppage
    ∧ (s.offer b).1.wires = s.wires
    ∧ (s.offer b).1.arriving = s.arriving ∧ (s.offer b).1.pending = s.pending := by
  cases h : s.lifting.openLift with
  | none => simp only [State.offer, h]; split <;> simp
  | some l =>
    simp only [State.offer, h]
    by_cases hf : s.fits b l = true
    · simp [hf]
    · simp only [hf, Bool.false_eq_true, if_false]; split <;> simp

@[simp] theorem State.offerHeads_frame (s : State) (n : Nat) :
    (State.offerHeads n s).now = s.now
    ∧ (State.offerHeads n s).clock = s.clock
    ∧ (State.offerHeads n s).timers = s.timers
    ∧ (State.offerHeads n s).setpoints = s.setpoints
    ∧ (State.offerHeads n s).carousel = s.carousel
    ∧ (State.offerHeads n s).due = s.due
    ∧ (State.offerHeads n s).glue = s.glue
    ∧ (State.offerHeads n s).cams = s.cams
    ∧ (State.offerHeads n s).stoppage = s.stoppage
    ∧ (State.offerHeads n s).wires = s.wires
    ∧ (State.offerHeads n s).arriving = s.arriving ∧ (State.offerHeads n s).pending = s.pending := by
  induction n generalizing s with
  | zero => simp [State.offerHeads]
  | succ n ih =>
    unfold State.offerHeads; split
    · simp
    · dsimp only; split <;> simp [ih]

@[simp] theorem State.offerDelivery_frame (s : State) :
    (s.offerDelivery).now = s.now ∧ (s.offerDelivery).clock = s.clock ∧ (s.offerDelivery).timers = s.timers
    ∧ (s.offerDelivery).setpoints = s.setpoints ∧ (s.offerDelivery).carousel = s.carousel
    ∧ (s.offerDelivery).due = s.due ∧ (s.offerDelivery).glue = s.glue ∧ (s.offerDelivery).cams = s.cams
    ∧ (s.offerDelivery).stoppage = s.stoppage ∧ (s.offerDelivery).wires = s.wires
    ∧ (s.offerDelivery).arriving = s.arriving ∧ (s.offerDelivery).pending = s.pending :=
  by simp [State.offerDelivery]

@[simp] theorem State.removeLift_frame (s : State) (n : Nat) :
    (s.removeLift n).now = s.now ∧ (s.removeLift n).clock = s.clock ∧ (s.removeLift n).timers = s.timers
    ∧ (s.removeLift n).books = s.books ∧ (s.removeLift n).setpoints = s.setpoints
    ∧ (s.removeLift n).carousel = s.carousel ∧ (s.removeLift n).due = s.due ∧ (s.removeLift n).glue = s.glue
    ∧ (s.removeLift n).cams = s.cams ∧ (s.removeLift n).delivery = s.delivery
    ∧ (s.removeLift n).stoppage = s.stoppage ∧ (s.removeLift n).ports = s.ports
    ∧ (s.removeLift n).wires = s.wires
    ∧ (s.removeLift n).arriving = s.arriving ∧ (s.removeLift n).pending = s.pending :=
  by and_intros <;> rfl

@[simp] theorem State.startOpenTime_frame (s : State) (serial : Nat) :
    (s.startOpenTime serial).now = s.now ∧ (s.startOpenTime serial).clock = s.clock
    ∧ (s.startOpenTime serial).timers = s.timers ∧ (s.startOpenTime serial).setpoints = s.setpoints
    ∧ (s.startOpenTime serial).carousel = s.carousel ∧ (s.startOpenTime serial).due = s.due
    ∧ (s.startOpenTime serial).glue = s.glue ∧ (s.startOpenTime serial).cams = s.cams
    ∧ (s.startOpenTime serial).delivery = s.delivery ∧ (s.startOpenTime serial).lifting = s.lifting
    ∧ (s.startOpenTime serial).stoppage = s.stoppage ∧ (s.startOpenTime serial).ports = s.ports
    ∧ (s.startOpenTime serial).wires = s.wires
    ∧ (s.startOpenTime serial).arriving = s.arriving ∧ (s.startOpenTime serial).pending = s.pending :=
  by and_intros <;> rfl

@[simp] theorem State.stopOpenTime_frame (s : State) (serial : Nat) :
    (s.stopOpenTime serial).now = s.now ∧ (s.stopOpenTime serial).clock = s.clock
    ∧ (s.stopOpenTime serial).timers = s.timers ∧ (s.stopOpenTime serial).setpoints = s.setpoints
    ∧ (s.stopOpenTime serial).carousel = s.carousel ∧ (s.stopOpenTime serial).due = s.due
    ∧ (s.stopOpenTime serial).glue = s.glue ∧ (s.stopOpenTime serial).cams = s.cams
    ∧ (s.stopOpenTime serial).delivery = s.delivery ∧ (s.stopOpenTime serial).lifting = s.lifting
    ∧ (s.stopOpenTime serial).stoppage = s.stoppage ∧ (s.stopOpenTime serial).ports = s.ports
    ∧ (s.stopOpenTime serial).wires = s.wires
    ∧ (s.stopOpenTime serial).arriving = s.arriving ∧ (s.stopOpenTime serial).pending = s.pending :=
  by and_intros <;> rfl

@[simp] theorem State.setGeo_frame (s : State) (f : Geometry → Geometry) :
    (s.setGeo f).now = s.now ∧ (s.setGeo f).timers = s.timers ∧ (s.setGeo f).books = s.books
    ∧ (s.setGeo f).setpoints = s.setpoints ∧ (s.setGeo f).carousel = s.carousel ∧ (s.setGeo f).due = s.due
    ∧ (s.setGeo f).glue = s.glue ∧ (s.setGeo f).cams = s.cams ∧ (s.setGeo f).delivery = s.delivery
    ∧ (s.setGeo f).lifting = s.lifting ∧ (s.setGeo f).stoppage = s.stoppage ∧ (s.setGeo f).ports = s.ports
    ∧ (s.setGeo f).wires = s.wires
    ∧ (s.setGeo f).arriving = s.arriving ∧ (s.setGeo f).pending = s.pending :=
  by and_intros <;> rfl

@[simp] theorem State.modifyCam_frame (s : State) (ch : Fin 8) (f : CamChannel → CamChannel) :
    (s.modifyCam ch f).now = s.now ∧ (s.modifyCam ch f).clock = s.clock ∧ (s.modifyCam ch f).timers = s.timers
    ∧ (s.modifyCam ch f).books = s.books ∧ (s.modifyCam ch f).setpoints = s.setpoints
    ∧ (s.modifyCam ch f).carousel = s.carousel ∧ (s.modifyCam ch f).due = s.due
    ∧ (s.modifyCam ch f).glue = s.glue ∧ (s.modifyCam ch f).delivery = s.delivery
    ∧ (s.modifyCam ch f).lifting = s.lifting ∧ (s.modifyCam ch f).stoppage = s.stoppage
    ∧ (s.modifyCam ch f).ports = s.ports ∧ (s.modifyCam ch f).wires = s.wires
    ∧ (s.modifyCam ch f).arriving = s.arriving ∧ (s.modifyCam ch f).pending = s.pending :=
  by and_intros <;> rfl

@[simp] theorem State.modifyClass_frame (s : State) (n : Fin 8) (f : JobClass → JobClass) :
    (s.modifyClass n f).now = s.now ∧ (s.modifyClass n f).clock = s.clock
    ∧ (s.modifyClass n f).timers = s.timers ∧ (s.modifyClass n f).books = s.books
    ∧ (s.modifyClass n f).carousel = s.carousel ∧ (s.modifyClass n f).due = s.due
    ∧ (s.modifyClass n f).glue = s.glue ∧ (s.modifyClass n f).cams = s.cams
    ∧ (s.modifyClass n f).delivery = s.delivery ∧ (s.modifyClass n f).lifting = s.lifting
    ∧ (s.modifyClass n f).stoppage = s.stoppage ∧ (s.modifyClass n f).ports = s.ports
    ∧ (s.modifyClass n f).wires = s.wires
    ∧ (s.modifyClass n f).arriving = s.arriving ∧ (s.modifyClass n f).pending = s.pending :=
  by and_intros <;> rfl

@[simp] theorem State.modifyGauge_frame (s : State) (f : GaugeCal → GaugeCal) :
    (s.modifyGauge f).now = s.now ∧ (s.modifyGauge f).clock = s.clock ∧ (s.modifyGauge f).timers = s.timers
    ∧ (s.modifyGauge f).books = s.books ∧ (s.modifyGauge f).carousel = s.carousel
    ∧ (s.modifyGauge f).due = s.due ∧ (s.modifyGauge f).glue = s.glue ∧ (s.modifyGauge f).cams = s.cams
    ∧ (s.modifyGauge f).delivery = s.delivery ∧ (s.modifyGauge f).lifting = s.lifting
    ∧ (s.modifyGauge f).stoppage = s.stoppage ∧ (s.modifyGauge f).ports = s.ports
    ∧ (s.modifyGauge f).wires = s.wires
    ∧ (s.modifyGauge f).arriving = s.arriving ∧ (s.modifyGauge f).pending = s.pending :=
  by and_intros <;> rfl

@[simp] theorem State.modifyLimits_frame (s : State) (f : LiftLimits → LiftLimits) :
    (s.modifyLimits f).now = s.now ∧ (s.modifyLimits f).clock = s.clock ∧ (s.modifyLimits f).timers = s.timers
    ∧ (s.modifyLimits f).books = s.books ∧ (s.modifyLimits f).setpoints = s.setpoints
    ∧ (s.modifyLimits f).carousel = s.carousel ∧ (s.modifyLimits f).due = s.due
    ∧ (s.modifyLimits f).glue = s.glue ∧ (s.modifyLimits f).cams = s.cams
    ∧ (s.modifyLimits f).delivery = s.delivery ∧ (s.modifyLimits f).stoppage = s.stoppage
    ∧ (s.modifyLimits f).ports = s.ports ∧ (s.modifyLimits f).wires = s.wires
    ∧ (s.modifyLimits f).arriving = s.arriving ∧ (s.modifyLimits f).pending = s.pending :=
  by and_intros <;> rfl

@[simp] theorem State.modifySensor_frame (s : State) (n : Sensor) (f : Conditioner → Conditioner) :
    (s.modifySensor n f).now = s.now ∧ (s.modifySensor n f).timers = s.timers
    ∧ (s.modifySensor n f).books = s.books ∧ (s.modifySensor n f).setpoints = s.setpoints
    ∧ (s.modifySensor n f).carousel = s.carousel ∧ (s.modifySensor n f).due = s.due
    ∧ (s.modifySensor n f).glue = s.glue ∧ (s.modifySensor n f).cams = s.cams
    ∧ (s.modifySensor n f).delivery = s.delivery ∧ (s.modifySensor n f).lifting = s.lifting
    ∧ (s.modifySensor n f).stoppage = s.stoppage ∧ (s.modifySensor n f).ports = s.ports
    ∧ (s.modifySensor n f).wires = s.wires
    ∧ (s.modifySensor n f).arriving = s.arriving ∧ (s.modifySensor n f).pending = s.pending :=
  by and_intros <;> rfl

@[simp] theorem State.setSupply_frame (s : State) (m : SupplyMonitor) :
    (s.setSupply m).now = s.now ∧ (s.setSupply m).clock = s.clock ∧ (s.setSupply m).timers = s.timers
    ∧ (s.setSupply m).books = s.books ∧ (s.setSupply m).setpoints = s.setpoints
    ∧ (s.setSupply m).carousel = s.carousel ∧ (s.setSupply m).due = s.due ∧ (s.setSupply m).glue = s.glue
    ∧ (s.setSupply m).cams = s.cams ∧ (s.setSupply m).delivery = s.delivery
    ∧ (s.setSupply m).lifting = s.lifting ∧ (s.setSupply m).ports = s.ports
    ∧ (s.setSupply m).wires = s.wires
    ∧ (s.setSupply m).arriving = s.arriving ∧ (s.setSupply m).pending = s.pending :=
  by and_intros <;> rfl

/-! ### Time, resets and the lines of the ports -/

/-- A timer is due exactly when it runs and its time has come. -/
theorem isDue_iff {now : Nat} {timer : Option Nat} :
    isDue now timer = true ↔ ∃ due, timer = some due ∧ due ≤ now := by
  cases timer <;> simp [isDue]

@[simp] theorem isDue_none (now : Nat) : isDue now none = false := rfl

@[simp] theorem isDue_some (now due : Nat) : isDue now (some due) = decide (due ≤ now) := rfl

@[simp] theorem State.assertReset_frame (s : State) (source : ResetCause) :
    (s.assertReset source).now = s.now ∧ (s.assertReset source).clock = s.clock
    ∧ (s.assertReset source).timers = s.timers ∧ (s.assertReset source).books = s.books
    ∧ (s.assertReset source).setpoints = s.setpoints ∧ (s.assertReset source).carousel = s.carousel
    ∧ (s.assertReset source).due = s.due ∧ (s.assertReset source).glue = s.glue
    ∧ (s.assertReset source).cams = s.cams ∧ (s.assertReset source).delivery = s.delivery
    ∧ (s.assertReset source).lifting = s.lifting ∧ (s.assertReset source).ports = s.ports
    ∧ (s.assertReset source).wires = s.wires ∧ (s.assertReset source).arriving = s.arriving
    ∧ (s.assertReset source).pending = s.pending := by
  unfold State.assertReset; split <;> and_intros <;> rfl

/-- R185: asserting a source leaves it among those that stand, and changes nothing else of the Stoppage Unit. -/
theorem State.assertReset_stoppage (s : State) (source : ResetCause) :
    (s.assertReset source).stoppage = { s.stoppage with asserted :=
      if source ∈ s.stoppage.asserted then s.stoppage.asserted else s.stoppage.asserted ++ [source] } := by
  unfold State.assertReset; split <;> rfl

@[simp] theorem State.setWire_frame (s : State) (p : PortId) (w : PortWire) :
    (s.setWire p w).now = s.now ∧ (s.setWire p w).clock = s.clock ∧ (s.setWire p w).timers = s.timers
    ∧ (s.setWire p w).books = s.books ∧ (s.setWire p w).setpoints = s.setpoints
    ∧ (s.setWire p w).carousel = s.carousel ∧ (s.setWire p w).due = s.due ∧ (s.setWire p w).glue = s.glue
    ∧ (s.setWire p w).cams = s.cams ∧ (s.setWire p w).delivery = s.delivery
    ∧ (s.setWire p w).lifting = s.lifting ∧ (s.setWire p w).stoppage = s.stoppage
    ∧ (s.setWire p w).ports = s.ports ∧ (s.setWire p w).arriving = s.arriving
    ∧ (s.setWire p w).pending = s.pending :=
  by and_intros <;> rfl

@[simp] theorem State.setWire_wires (s : State) (p : PortId) (w : PortWire) :
    (s.setWire p w).wires = s.wires.set p w := rfl

@[simp] theorem State.post_frame (s : State) (found : Option Instr) :
    (s.post found).now = s.now ∧ (s.post found).clock = s.clock ∧ (s.post found).timers = s.timers
    ∧ (s.post found).books = s.books ∧ (s.post found).setpoints = s.setpoints
    ∧ (s.post found).carousel = s.carousel ∧ (s.post found).due = s.due ∧ (s.post found).glue = s.glue
    ∧ (s.post found).cams = s.cams ∧ (s.post found).delivery = s.delivery ∧ (s.post found).lifting = s.lifting
    ∧ (s.post found).stoppage = s.stoppage ∧ (s.post found).ports = s.ports ∧ (s.post found).wires = s.wires
    ∧ (s.post found).arriving = s.arriving :=
  by and_intros <;> rfl

@[simp] theorem State.post_none (s : State) : s.post none = s := by simp [State.post]

@[simp] theorem State.post_pending (s : State) (found : Option Instr) :
    (s.post found).pending = s.pending ++ found.toList := rfl

/-- R190: an event on the lines of a port changes only the ports, their wires and the queue of waiting commands. -/
@[simp] theorem State.takeWire_frame (s : State) (p : PortId) (e : WireEvent) :
    (s.takeWire p e).now = s.now ∧ (s.takeWire p e).clock = s.clock ∧ (s.takeWire p e).timers = s.timers
    ∧ (s.takeWire p e).books = s.books ∧ (s.takeWire p e).setpoints = s.setpoints
    ∧ (s.takeWire p e).carousel = s.carousel ∧ (s.takeWire p e).due = s.due ∧ (s.takeWire p e).glue = s.glue
    ∧ (s.takeWire p e).cams = s.cams ∧ (s.takeWire p e).delivery = s.delivery
    ∧ (s.takeWire p e).lifting = s.lifting ∧ (s.takeWire p e).stoppage = s.stoppage
    ∧ (s.takeWire p e).arriving = s.arriving := by
  unfold State.takeWire State.whenRunning
  split
  · and_intros <;> rfl
  · cases e
    · and_intros <;> rfl
    · simp only [State.clockBit]
      split_ifs <;> simp [State.collectByte]
    · simp only [State.driveBit]
      split_ifs <;> simp
    · simp [State.releaseSelect]

end Sys2Proof.Machine
end

