-- ==== Sys2Proof/Laws/Books.lean ====
section
/-!
SUPPORT. Looking books up: what `findBook` reads after each operation on the book records, and the serials of the live
books.
-/

namespace Sys2Proof.Machine

/-! ### One slot list -/

/-- A slot's book, if the test holds of it. -/
theorem filter_slot (test : Book → Bool) (b : Book) :
    Option.filter test (some b) = if test b = true then some b else none := by
  by_cases h : test b <;> simp [Option.filter, h]

/-- The first book of a serial in a list of slots. -/
theorem State.findBook_eq (s : State) (n : Nat) :
    s.findBook n = s.books.slots.toList.findSome? fun slot => slot.filter fun b => b.serial == n := rfl

/-- `findBook` reads the slots alone. -/
theorem State.findBook_congr {s t : State} (h : t.books.slots = s.books.slots) (n : Nat) :
    t.findBook n = s.findBook n := by
  rw [State.findBook_eq, State.findBook_eq, h]

theorem BookTable.mem_live {t : BookTable} {b : Book} : b ∈ t.live ↔ some b ∈ t.slots.toList := by
  simp [BookTable.live]

/-- The book found carries the serial asked for, and is live. -/
theorem State.findBook_some {s : State} {n : Nat} {b : Book} (h : s.findBook n = some b) :
    b.serial = n ∧ b ∈ s.books.live := by
  rw [State.findBook_eq] at h
  obtain ⟨slot, hm, hf⟩ := List.exists_of_findSome?_eq_some h
  rw [Option.filter_eq_some_iff] at hf
  obtain ⟨rfl, hs⟩ := hf
  exact ⟨by simpa using hs, BookTable.mem_live.mpr hm⟩

/-- No book is found exactly where no live book carries the serial. -/
theorem State.findBook_none {s : State} {n : Nat} : s.findBook n = none ↔ ∀ b ∈ s.books.live, b.serial ≠ n := by
  rw [State.findBook_eq, List.findSome?_eq_none_iff]
  constructor
  · intro h b hb hn
    have := h _ (BookTable.mem_live.mp hb)
    simp [filter_slot, hn] at this
  · intro h slot hm
    cases slot with
    | none => rfl
    | some b =>
      have := h b (BookTable.mem_live.mpr hm)
      simp [filter_slot, this]

/-! ### Changing a record -/

/-- The book of the serial is read as changed. -/
theorem State.findBook_mapBook_self (s : State) (n : Nat) (f : Book → Book) (hf : ∀ b, (f b).serial = b.serial) :
    (s.mapBook n f).findBook n = (s.findBook n).map f := by
  rw [State.findBook_eq, State.findBook_eq, State.mapBook]
  simp only [Vector.toList_map]
  induction s.books.slots.toList with
  | nil => rfl
  | cons a l ih =>
    simp only [List.map_cons, List.findSome?_cons]
    rw [ih]
    cases a with
    | none => rfl
    | some b => by_cases hb : b.serial = n <;> simp [filter_slot, hb, hf]

/-- Every other book is read as before. -/
theorem State.findBook_mapBook_of_ne (s : State) {n m : Nat} (f : Book → Book) (hf : ∀ b, (f b).serial = b.serial)
    (h : m ≠ n) : (s.mapBook n f).findBook m = s.findBook m := by
  rw [State.findBook_eq, State.findBook_eq, State.mapBook]
  simp only [Vector.toList_map]
  induction s.books.slots.toList with
  | nil => rfl
  | cons a l ih =>
    simp only [List.map_cons, List.findSome?_cons]
    rw [ih]
    cases a with
    | none => rfl
    | some b =>
      by_cases hb : b.serial = n
      · simp [hb, filter_slot, hf, Ne.symm h]
      · simp [hb]

/-- Two changes of one book are one change. -/
theorem State.mapBook_mapBook (s : State) (n : Nat) (f g : Book → Book) (hf : ∀ b, (f b).serial = b.serial) :
    (s.mapBook n f).mapBook n g = s.mapBook n fun b => g (f b) := by
  simp only [State.mapBook, Vector.map_map]
  congr 3
  funext slot
  cases slot with
  | none => rfl
  | some b => by_cases hb : b.serial = n <;> simp [hb, hf]

/-! ### Setting a cause -/

theorem Book.takeCause_serial (c : RejectCause) (b : Book) : (b.takeCause c).serial = b.serial := rfl

/-- Setting a cause keeps every record but the causes, so it keeps what `findBook` finds up to the cause. -/
theorem State.findBook_setCause_self (s : State) (n : Nat) (c : RejectCause) :
    (s.setCause n c).findBook n = (s.findBook n).map (Book.takeCause c) := by
  rw [← s.findBook_mapBook_self n (Book.takeCause c) (Book.takeCause_serial c)]
  exact State.findBook_congr rfl n

/-! ### Freeing a slot -/

theorem State.live_freeBook (s : State) (n : Nat) :
    (s.freeBook n).books.live = s.books.live.filter fun b => b.serial != n := by
  simp only [State.freeBook, BookTable.live, Vector.toList_map, List.filterMap_map]
  induction s.books.slots.toList with
  | nil => rfl
  | cons a l ih =>
    cases a with
    | none => exact ih
    | some b =>
      simp only [List.filterMap_cons, Function.comp, id, filter_slot, List.filter_cons] at ih ⊢
      by_cases hb : b.serial != n
      · simp only [hb, if_true, ih]
      · simp only [hb]; exact ih

/-! ### The serials of the live books -/

/-- A change of records that keeps the serials keeps the list of serials. -/
theorem BookTable.live_map_serial {t : BookTable} {f : Option Book → Option Book}
    (h : ∀ slot, (f slot).map Book.serial = slot.map Book.serial) :
    ({ t with slots := t.slots.map f } : BookTable).live.map Book.serial = t.live.map Book.serial := by
  simp only [BookTable.live, Vector.toList_map]
  induction t.slots.toList with
  | nil => rfl
  | cons a l ih =>
    have ha := h a
    cases a with
    | none =>
      cases hfa : f none with
      | none => simpa [hfa] using ih
      | some b => simp [hfa] at ha
    | some c =>
      cases hfa : f (some c) with
      | none => simp [hfa] at ha
      | some b => simp_all

end Sys2Proof.Machine
end

