-- ==== Sys2Proof/Laws/Bytes.lean ====
section
/-!
SUPPORT. Numbers and bytes (R190): a number written in `w` bytes is read back modulo 256 to the power of `w`, and a field
of an answer is read at its place.
-/

namespace Sys2Proof

@[simp] theorem bytesOf_length (w v : Nat) : (bytesOf w v).length = w := by
  induction w generalizing v with
  | zero => rfl
  | succ w ih => simp [bytesOf, ih]

theorem natOf_append_byte (bs : List Byte) (b : Byte) : natOf (bs ++ [b]) = natOf bs * 256 + b.toNat := by
  simp [natOf]

/-- R190: reading back what was written. -/
theorem natOf_bytesOf (w v : Nat) : natOf (bytesOf w v) = v % 256 ^ w := by
  induction w generalizing v with
  | zero => simp [bytesOf, natOf, Nat.mod_one]
  | succ w ih =>
    have h : v % 256 ^ (w + 1) = v % 256 + 256 * (v / 256 % 256 ^ w) := by
      rw [Nat.pow_succ, Nat.mul_comm, Nat.mod_mul]
    rw [bytesOf, natOf_append_byte, ih, BitVec.toNat_ofNat, h]
    omega

/-- A field that lies in the first part of an answer is read there. -/
theorem natAt_append_left {xs ys : List Byte} {o w : Nat} (h : o + w ≤ xs.length) :
    natAt (xs ++ ys) o w = natAt xs o w := by
  unfold natAt
  rw [List.drop_append_of_le_length (by omega), List.take_append_of_le_length (by simp; omega)]

/-- A field that lies past the first part of an answer is read in the rest. -/
theorem natAt_append_right {xs ys : List Byte} {o w : Nat} (h : xs.length ≤ o) :
    natAt (xs ++ ys) o w = natAt ys (o - xs.length) w := by
  unfold natAt
  obtain ⟨k, rfl⟩ := Nat.le.dest h
  rw [← List.drop_drop, List.drop_left', Nat.add_sub_cancel_left]
  rfl

theorem natAt_bytesOf (w v : Nat) : natAt (bytesOf w v) 0 w = v % 256 ^ w := by
  rw [natAt, List.drop_zero, List.take_of_length_le (by simp), natOf_bytesOf]

/-- A word read back from its own bytes. -/
theorem ofNat_natOf_bytesOf {n w : Nat} (v : BitVec n) (h : n = 8 * w) :
    BitVec.ofNat n (natOf (bytesOf w v.toNat)) = v := by
  subst h
  apply BitVec.eq_of_toNat_eq
  rw [BitVec.toNat_ofNat, natOf_bytesOf, show (256 : Nat) = 2 ^ 8 from rfl, ← Nat.pow_mul, Nat.mod_mod,
    Nat.mod_eq_of_lt v.isLt]

end Sys2Proof
end

