-- ==== Sys2Proof/Laws/Commands.lean ====
section
/-!
SUPPORT. What the operand forms of a command answer: taken, refused, or not taken in reset; and values brought into a
range.
-/

namespace Sys2Proof.Machine

variable {s : State} {p : PortId} {code : Byte} {rights : Role → Bool} {subject : Nat}
  {body : State → State × Reply}

/-! ### Rights (R195) -/

theorem Rights.notObserver_iff {r : Role} : Rights.notObserver r = true ↔ r ≠ .observer := by cases r <;> decide
theorem Rights.gather_iff {r : Role} : Rights.gather r = true ↔ r = .gather := by cases r <;> decide
theorem Rights.binder_iff {r : Role} : Rights.binder r = true ↔ r = .binder := by cases r <;> decide
theorem Rights.cover_iff {r : Role} : Rights.cover r = true ↔ r = .cover := by cases r <;> decide
theorem Rights.trim_iff {r : Role} : Rights.trim r = true ↔ r = .trim := by cases r <;> decide

/-! ### Taken, refused, held -/

/-- R185: nothing is taken while the part is held. -/
theorem State.whenRunning_held {f : State → State} (h : s.stoppage.held = true) : s.whenRunning f = s := by
  simp [State.whenRunning, h]

theorem State.whenRunning_running {f : State → State} (h : s.stoppage.held = false) : s.whenRunning f = f s := by
  simp [State.whenRunning, h]

/-- What `whenRunning` can answer. -/
theorem State.whenRunning_cases (f : State → State) (s : State) :
    (s.stoppage.held = true ∧ s.whenRunning f = s) ∨ (s.stoppage.held = false ∧ s.whenRunning f = f s) := by
  cases h : s.stoppage.held
  · exact .inr ⟨rfl, s.whenRunning_running h⟩
  · exact .inl ⟨rfl, s.whenRunning_held h⟩

/-- A command from a port with the right runs its body and leaves the body's reply at its port. -/
theorem State.command_taken (h : s.stoppage.held = false) (hr : rights s.ports[p].role = true) :
    s.command p code rights subject body = (body s).1.finish p code (body s).2 := by
  simp only [State.command, State.whenRunning, h, hr, if_true]; rfl

/-- R195: a command from a port without the right leaves REFUSED_ROLE. -/
theorem State.command_refused (h : s.stoppage.held = false) (hr : rights s.ports[p].role = false) :
    s.command p code rights subject body = s.finish p code ⟨.refusedRole, subject⟩ := by
  simp only [State.command, State.whenRunning, h, hr]; rfl

theorem State.command_held (h : s.stoppage.held = true) : s.command p code rights subject body = s := by
  simp [State.command, State.whenRunning, h]

/-- What a command can answer. -/
theorem State.command_cases (p : PortId) (code : Byte) (rights : Role → Bool) (subject : Nat)
    (body : State → State × Reply) (s : State) :
    (s.stoppage.held = true ∧ s.command p code rights subject body = s)
    ∨ (s.stoppage.held = false ∧ rights s.ports[p].role = false
      ∧ s.command p code rights subject body = s.finish p code ⟨.refusedRole, subject⟩)
    ∨ (s.stoppage.held = false ∧ rights s.ports[p].role = true
      ∧ s.command p code rights subject body = (body s).1.finish p code (body s).2) := by
  cases h : s.stoppage.held
  · cases hr : rights s.ports[p].role
    · exact .inr (.inl ⟨rfl, rfl, State.command_refused h hr⟩)
    · exact .inr (.inr ⟨rfl, rfl, State.command_taken h hr⟩)
  · exact .inl ⟨rfl, State.command_held h⟩

/-- R195: a configuration write in SETUP from a role that may configure runs its body. -/
theorem State.configWrite_taken (h : s.stoppage.held = false) (hr : s.ports[p].role ≠ .observer)
    (hm : s.clock.mode = .setup) :
    s.configWrite p code subject body = (body s).1.finish p code (body s).2 := by
  have hr' := Rights.notObserver_iff.mpr hr
  rw [State.configWrite, State.command_taken h hr', if_pos hm]

/-- R195: outside SETUP it leaves REFUSED_MODE. -/
theorem State.configWrite_refused (h : s.stoppage.held = false) (hr : s.ports[p].role ≠ .observer)
    (hm : s.clock.mode ≠ .setup) :
    s.configWrite p code subject body = s.finish p code ⟨.refusedMode, subject⟩ := by
  have hr' := Rights.notObserver_iff.mpr hr
  rw [State.configWrite, State.command_taken h hr', if_neg hm]
  rfl

/-- What a configuration write can answer: the state unchanged, a refusal at its port, or in SETUP its body. -/
theorem State.configWrite_cases (p : PortId) (code : Byte) (subject : Nat) (body : State → State × Reply)
    (s : State) :
    s.configWrite p code subject body = s
    ∨ (∃ r, s.configWrite p code subject body = s.finish p code r)
    ∨ (s.clock.mode = .setup ∧ s.configWrite p code subject body = (body s).1.finish p code (body s).2) := by
  rcases State.command_cases p code Rights.notObserver subject
      (fun s => if s.clock.mode = .setup then body s else (s, .refused .refusedMode subject)) s with
    ⟨_, h⟩ | ⟨_, _, h⟩ | ⟨_, _, h⟩
  · exact .inl h
  · exact .inr (.inl ⟨_, h⟩)
  · by_cases hm : s.clock.mode = .setup
    · rw [if_pos hm] at h; exact .inr (.inr ⟨hm, h⟩)
    · rw [if_neg hm] at h; exact .inr (.inl ⟨_, h⟩)

/-! ### Values brought into a range -/

theorem bring_le {lo hi : Nat} {v : Int} (h : lo ≤ hi) : bring lo hi v ≤ hi := by
  unfold bring; split_ifs <;> omega

theorem le_bring {lo hi : Nat} {v : Int} (h : lo ≤ hi) : lo ≤ bring lo hi v := by
  unfold bring; split_ifs <;> omega

/-- `bring` is the nearer end of the range, or the value. -/
theorem bring_eq {lo hi : Nat} (v : Int) (h : lo ≤ hi) :
    bring lo hi v = (max (lo : Int) (min (hi : Int) v)).toNat := by
  unfold bring; split_ifs <;> omega

theorem bringInt_eq {lo hi : Int} (v : Int) (h : lo ≤ hi) : bringInt lo hi v = max lo (min hi v) := by
  unfold bringInt; split_ifs <;> omega

/-- `outside` says that the value is not in the range. -/
theorem outside_eq (lo hi : Nat) (v : Int) : outside lo hi v = !decide ((lo : Int) ≤ v ∧ v ≤ hi) := by
  unfold outside
  rw [Bool.eq_iff_iff]
  simp only [Bool.or_eq_true, decide_eq_true_eq, Bool.not_eq_true', decide_eq_false_iff_not]
  omega

/-! ### Frames and pulses (R193, R199) -/

/-- With select low on the lines of a port, the frame abandoned is the one in progress, once its gap is over. -/
theorem State.abandons_line {bytes : List Byte} {due : Nat} (h : s.wires[p].gap = some due) :
    s.abandons p bytes = true ↔
      due ≤ s.now ∧ (s.ports[p].frame = .collecting ∨ s.ports[p].frame = .answering)
        ∧ s.ports[p].collected = bytes := by
  unfold State.abandons; rw [h]
  simp only [Port.inFrame, Bool.and_eq_true, Bool.or_eq_true, decide_eq_true_eq, beq_iff_eq, and_assoc]

/-- With select high there, it is any frame that can be abandoned. -/
theorem State.abandons_row {bytes : List Byte} (h : s.wires[p].gap = none) :
    s.abandons p bytes = isAbandonable bytes := by
  unfold State.abandons; rw [h]

/-- What a port posts at an idle millisecond. -/
theorem State.mem_portDueEvents {now : Nat} {i : Instr} : i ∈ s.portDueEvents now p ↔
    (i = .frameAbandon p s.ports[p].collected ∧ (s.ports[p].frame = .collecting ∨ s.ports[p].frame = .answering)
      ∧ isDue now s.wires[p].gap = true) ∨ (i = .attnPulseEnd p ∧ isDue now s.ports[p].pulse = true) := by
  simp only [State.portDueEvents, List.mem_append, whenDue, Port.inFrame, Bool.and_eq_true, Bool.or_eq_true,
    beq_iff_eq, List.mem_ite_nil_right, List.mem_singleton]
  tauto

end Sys2Proof.Machine
end

