-- ==== Sys2Proof/Tests/Slice0.lean ====
section
/-!
SUPPORT. Tests of the model on the spec's own worked cases and examples, a word of each family's frames written out from
R202 and R203, the ill-formed terms that `Instr.wellFormed` refuses, and for every statement with hypotheses a state that
meets them.
-/

namespace Sys2Proof.Tests

open Machine

/-! ### Helpers -/

/-- The state after one command; the state itself where the command did not answer a next one. -/
def after (i : Instr) (s : State) : State :=
  match exec i s with
  | .next t => t
  | .fault _ => s
  | .refused _ => s

/-- What the command left at its port. -/
def answer (p : PortId) (i : Instr) (s : State) : Result × Nat :=
  let t := after i s
  (t.ports[p].result, t.ports[p].subject.toNat)

/-- The state after reset: P0 GATHER, P1 BINDER, P2 COVER, P3 TRIM, in SETUP. -/
def s0 : State := State.reset

/-- The same, with no port of a role above but P3 OBSERVER. -/
def observed : State := { s0 with ports := s0.ports.set 3 { s0.ports[3] with role := .observer } }

def held : State := { s0 with stoppage := { s0.stoppage with held := true, asserted := [.pin] } }

/-- Held in reset by these sources. -/
def heldBy (sources : List ResetCause) : State :=
  { s0 with stoppage := { s0.stoppage with held := true, asserted := sources } }

/-- The same state at another time. -/
def atTime (n : Nat) (s : State) : State := { s with now := n }

def inMode (m : LineMode) (s : State) : State := { s with clock := { s.clock with mode := m } }

def withLag (n : Nat) (s : State) : State := { s with clock := { s.clock with lag := n } }

def atPhase (n : Nat) (s : State) : State := { s with clock := { s.clock with phase := n } }

/-- The job of the worked case of chapter 3: serial 417. -/
def job417 : Job := ⟨0x417, 2, 303010, 297000, 216000, 210000, 450000⟩

/-- Class 2 of the worked case. -/
def class2 : JobClass := ⟨2500, 8000, 400, 300, 4000, 15000, true, 30000, 1000⟩

/-- The gauge calibration of the worked case. -/
def gauge : GaugeCal := ⟨.add, 6, -120, 600⟩

/-- The samples of the worked case. -/
def samples417 : List Nat := [18240, 18310, 18195, 18420, 18280]

/-- The set-point record that the worked case states. -/
def points417 : SetPoints :=
  ⟨18442, 18842, 2500, 3000, 3010, 3500, 207600, 215600, 234400, 242400, 18542, ⟨27, 2014⟩, some ⟨102, 1864⟩, 4096,
    48842⟩

/-- A book with the job of the worked case. -/
def book (serial : Nat) (st : BookState) : Book :=
  { unannouncedBook serial with state := st, job := some job417, cause := none }

/-- The same, with its set-points. -/
def done (serial : Nat) (st : BookState) : Book := { book serial st with setPoints := some points417 }

/-- A book in the first slot of the table. -/
def withBook (b : Book) (s : State) : State := { s with books := { s.books with slots := s.books.slots.set 0 (some b) } }

/-- A book in the second slot of the table. -/
def withSecond (b : Book) (s : State) : State :=
  { s with books := { s.books with slots := s.books.slots.set 1 (some b) } }

def queued (q : List Nat) (s : State) : State := { s with books := { s.books with announceQ := q } }

/-- The open book 417, with a queue of its own. -/
def opened : State := queued [417] (withBook (book 417 .announced) s0)

/-- Book `n` in a clamp. -/
def clamped (c n : Nat) (s : State) : State :=
  { s with carousel := { s.carousel with clampMap := s.carousel.clampMap.set c (some n) } }

def potsReady (s : State) : State :=
  { s with glue := { spine := { s.glue.spine with state := .ready }, side := { s.glue.side with state := .ready } } }

/-- RUN with the standstill timer running, glue ready. -/
def running : State :=
  potsReady { s0 with clock := { s0.clock with mode := .run, standstillTimer := some 250 } }

def rejects (n : Nat) (s : State) : State :=
  { s with books := { s.books with rejects := List.replicate n ⟨5, 0, .wedge, .release⟩ } }

def lift (n : Nat) (st : LiftState) (books : List Nat) : Lift :=
  { number := n, state := st, books := books, height := 18842, overdue := false,
    windowTimer := if st = .opened then some 1500 else none
    trimTimer := if st = .dispatched then some 30000 else none }

def lifts (l : List Lift) (s : State) : State := { s with lifting := { s.lifting with lifts := l } }

def windowOn (c : Fin 8) (w : CamWindow) (s : State) : State :=
  { s with cams := s.cams.set c { s.cams[c] with window := some w } }

/-- The cause with which a set-point computation fails. -/
def failure : Except RejectCause (SetPoints × Warnings) → Option RejectCause
  | .error cause => some cause
  | .ok _ => none

/-- Port P0 within a frame. -/
def framing (f : FrameState) (bytes : List Byte) (s : State) : State :=
  s.modifyPort 0 fun q => { q with frame := f, collected := bytes }

/-- The lines of P0 within a frame. -/
def wired (bits : List Bool) (answered : Nat) (s : State) : State := s.setWire 0 ⟨bits, answered, some 2, true, false⟩

/-- Line events on P0, one after another. -/
def line (events : List WireEvent) (s : State) : State := events.foldl (fun t e => t.takeWire 0 e) s

/-- One byte clocked in, the most significant bit first; SCK rests low. -/
def clocked (b : Byte) : List WireEvent := (List.finRange 8).flatMap fun i => [.clockRise (b.getMsbD i), .clockFall]

/-! ### Well-formedness refuses -/

theorem test_wellFormed_refuses_a_long_caliper : (Instr.caliper 0 (List.replicate 256 0)).wellFormed = false := by
  decide +kernel

theorem test_wellFormed_refuses_remove_as_keep : (Instr.resolveClampKeep 1 3 1).wellFormed = false := by decide

theorem test_wellFormed_refuses_a_good_frame_as_error : (Instr.frameError 0 [0x22] false).wellFormed = false := by
  decide

theorem test_wellFormed_refuses_an_unknown_code_as_abandoned : (Instr.frameAbandon 0 [0x99]).wellFormed = false := by
  decide

theorem test_wellFormed_refuses_serial_zero :
    (Instr.openTimeExpiry 0).wellFormed = false ∧ (Instr.coolingExpiry 0).wellFormed = false := by decide

/-! ### Frames, byte by byte from R202 and R203 -/

theorem test_frame_reads :
    decodeFrame 3 [0x05, 0x02, 0xC7] false = some (.readBook 3 711)
    ∧ decodeFrame 0 [0x0C, 0x04] false = some (.readRejects 0 4) := by decide

/-- R50: a TAKE REJECT with its 8 answer bytes clocked out. -/
theorem test_frame_take_reject :
    decodeFrame 0 [0x0D, 0, 0, 0, 0, 0, 0, 0, 0] false = some (.takeReject 0 (.wholeFrame 8)) := by decide

theorem test_frame_attention : decodeFrame 2 [0x10, 0x00, 0x21, 0x01] false = some (.setAttention 2 0x21 1) := by decide

theorem test_frame_announce :
    decodeFrame 0 ([0x20, 0, 0, 4, 17, 2] ++ [0x04, 0x9F, 0xA2] ++ [0x04, 0x88, 0x28] ++ [0x03, 0x4B, 0xC0]
      ++ [0x03, 0x34, 0x50] ++ [0x06, 0xDD, 0xD0] ++ [0x7E, 0x11, 0x09, 0x03]) false
    = some (.announce 0 0x411 2 303010 297000 216000 210000 450000 0x7E110903) := by decide

theorem test_frame_caliper :
    decodeFrame 0 [0x21, 2, 0x00, 0x47, 0x40, 0x00, 0x47, 0x86] false = some (.caliper 0 [18240, 18310]) := by decide

theorem test_frame_line :
    decodeFrame 1 [0x30] false = some (.start 1)
    ∧ decodeFrame 1 [0x36, 9, 1] false = some (.resolveClampRemove 1 9)
    ∧ decodeFrame 1 [0x37, 1, 0x07, 0x08] false = some (.glueReading 1 1 1800) := by decide

/-- Chapter 11's worked example: the short COVER SEEN errs, the whole one is taken. -/
theorem test_frame_cover_seen :
    decodeFrame 2 [0x40, 0x02, 0xC7, 0x7E, 0x11, 0x09] false
      = some (.frameError 2 [0x40, 0x02, 0xC7, 0x7E, 0x11, 0x09] false)
    ∧ decodeFrame 2 [0x40, 0x02, 0xC7, 0x7E, 0x11, 0x09, 0x03] false = some (.coverSeen 2 711 0x7E110903) := by decide

theorem test_frame_trimmer :
    decodeFrame 3 [0x50, 43] false = some (.takeLift 3 43) ∧ decodeFrame 3 [0x51, 43, 1] false = some (.cutDone 3 43 1)
    ∧ decodeFrame 3 [0x51, 43] false = some (.frameError 3 [0x51, 43] false) := by decide

theorem test_frame_clamps : decodeFrame 1 [0x60, 9] false = some (.lockClamp 1 9) := by decide

/-- A signed value is sent in two's complement (R202). -/
theorem test_frame_configuration :
    decodeFrame 1 [0x74, 2, 0xFF, 0xFF, 0xFF, 0x88] false = some (.setGaugeCal 1 2 (BitVec.ofInt 32 (-120)))
    ∧ decodeFrame 1 [0x72, 4, 0, 0x13, 0x88] false = some (.setCamWindow 1 4 0 5000) := by decide

/-- A leads B forward (R1). -/
theorem test_quadrature :
    quadratureCount false false true false = some .forwardCount
    ∧ quadratureCount false false false true = some .reverseCount
    ∧ quadratureCount false false true true = none := by decide

/-- R190, R191: a SEAL clocked in on P0 waits when select rises; an unknown code ends as a FRAME_ERROR. -/
theorem test_frame_on_the_lines :
    (line ([.selectFall] ++ clocked 0x22 ++ [.selectRise]) s0).pending = [.seal 0]
    ∧ (line ([.selectFall] ++ clocked 0x99) s0).ports[0].frame = .discarding
    ∧ (line ([.selectFall] ++ clocked 0x99 ++ [.selectRise]) s0).pending = [.frameError 0 [0x99] false] := by
  decide +kernel

/-- R193: a port in COLLECTING is abandoned 2 ms after its last edge, not before; an edge at 1 ms puts it off to 3 ms; a
FRAME_ABANDON named before then changes nothing. An edge of SCK is a rising or a falling one. -/
theorem test_frame_gap :
    let t := line ([.selectFall] ++ clocked 0x51) s0
    (atTime 0 t).idle.pending = [] ∧ (atTime 1 t).idle.pending = [.frameAbandon 0 [0x51]]
    ∧ (after (.frameAbandon 0 [0x51]) (atTime 1 t)).ports[0].frame = .collecting
    ∧ (after (.frameAbandon 0 [0x51]) (atTime 2 t)).ports[0].frame = .discarding
    ∧ (after (.frameAbandon 0 [0x51]) (atTime 2 t)).ports[0].subject = 0x51
    ∧ (atTime 1 (line [.clockRise true] (atTime 1 t))).idle.pending = []
    ∧ (atTime 1 (line [.clockFall] (atTime 1 t))).idle.pending = [] := by decide +kernel

/-- R193: select low with no clock edge is no frame; with an edge and no bit it is a failed one (entry 21). -/
theorem test_no_bit_clocked :
    (line [.selectFall, .selectRise] s0).pending = []
    ∧ (line [.selectFall, .clockFall, .selectRise] s0).pending = [.frameError 0 [] true]
    ∧ (line [.selectFall, .clockFall] s0).wires[0].edge = true := by decide +kernel

/-- R199: a raise restarts a pulse in progress: the end of the first, taken after it, leaves the pulse. -/
theorem test_pulse_restarts :
    let s := (after (.setAttention 3 511 1) s0).raise .reject
    let t := (atTime 1 s).raise .reject
    s.attnActive 3 = true ∧ (after (.attnPulseEnd 3) (atTime 1 s)).attnActive 3 = false
    ∧ (after (.attnPulseEnd 3) t).attnActive 3 = true
    ∧ (after (.attnPulseEnd 3) (atTime 2 t)).attnActive 3 = false := by decide +kernel

/-- R191's example (a CUT DONE without its outcome), and R202's lengths at their bounds: CALIPER of no sample and of one
byte too few, a short READ BOOK, TAKE REJECT of 8 and of 9 bytes and a bit, an unknown code, a bit alone, nothing. -/
theorem test_frame_errors :
    isFrameError [0x51, 1] false = true ∧ isFrameError [0x51, 1, 0] false = false ∧ isFrameError [0x51, 1, 0] true = true
    ∧ isFrameError [0x51, 1, 0, 0] false = true ∧ isFrameError [0x21, 0] false = false
    ∧ isFrameError [0x21] false = true ∧ isFrameError [0x21, 1, 0, 0] false = true
    ∧ isFrameError [0x05, 0] true = true ∧ isFrameError [0x05, 0, 1] true = false
    ∧ isFrameError (0x0D :: List.replicate 7 0) true = false ∧ isFrameError (0x0D :: List.replicate 8 0) true = true
    ∧ isFrameError [0x99] false = true ∧ isFrameError [] true = true ∧ isFrameError [] false = false := by decide

/-- R190, R192: READ IDENT is taken as its command byte completes; its answer 0x2416 ... is on SDO, each bit from a
falling edge of SCK to the next, and ends with select. -/
theorem test_read_on_the_lines :
    let t := line ([.selectFall] ++ (clocked 0x01).dropLast) s0
    let u := after (.readIdent 0) { t with pending := [] }
    let bit : List WireEvent := [.clockFall, .clockRise false]
    t.pending = [.readIdent 0] ∧ u.ports[0].frame = .answering ∧ u.sdo 0 = false
    ∧ (line (bit ++ bit) u).sdo 0 = false ∧ (line (bit ++ bit ++ [.clockFall]) u).sdo 0 = true
    ∧ (line (bit ++ bit ++ bit) u).sdo 0 = true ∧ (line (bit ++ bit ++ bit ++ [.clockFall]) u).sdo 0 = false
    ∧ (line [.selectRise] u).ports[0].frame = .idle ∧ (line [.selectRise] u).pending = [] := by decide +kernel

/-! ### Set-points: the worked cases of chapter 3 -/

theorem test_worked_case :
    (computeSetPoints job417 samples417 class2 gauge 4096 600000).toOption = some (points417, Warnings.none) := by
  decide +kernel

theorem test_worked_wedge : computeSetPoints job417 [18100, 18800] class2 gauge 4096 600000 = .error .wedge := rfl

/-- R62, R65, R70. -/
theorem test_stages :
    correctSample ⟨.subtract, 3, 0, 600⟩ 5000 = 4375 ∧ correctSample ⟨.subtract, 0, -200, 600⟩ 100 = 0
    ∧ caliperOf [10001, 10002] = 10002 ∧ caliperOf [10000, 10010, 10010, 10500] = 10010
    ∧ roundScore 207575 = 207600 ∧ roundScore 207574 = 207550 := by decide

/-! ### The pitch clock and the line: the examples of chapter 1 -/

/-- R10: N = 24, k = 5: Cover names clamp 19, Mill clamp 2. -/
theorem test_clampAt :
    ({ s0.clock with clampIndex := 5 } : PitchClock).clampAt .cover = 19
    ∧ ({ s0.clock with clampIndex := 5 } : PitchClock).clampAt .mill = 2 := by decide

/-- R17's example, with home phase 100. -/
theorem test_home_offsets :
    let at_ (k phase : Nat) : PitchClock := { s0.clock with
      clampIndex := k, phase := phase, geometry := { s0.clock.geometry with homePhase := 100 } }
    (at_ 23 4070).homeOffset = (-126, 0) ∧ (at_ 23 4070).homeAccepted = false
    ∧ (at_ 23 4090).homeOffset = (-106, 0) ∧ (at_ 0 60).homeOffset = (-40, 0) ∧ (at_ 0 60).homeAccepted = true := by
  decide

/-- The worked homing: the HOME edge leaves RUN at phase 0 with Nip's mark alone. -/
theorem test_homing :
    let t := (inMode .homing s0).sensorEdge .home
    t.clock.mode = .run ∧ t.clock.fired = #v[false, false, false, false, false, true, false]
      ∧ t.clock.standstillTimer = some 250 := by decide +kernel

/-- The worked pitch wrap: k becomes 1 and Nip names clamp 14. -/
theorem test_wrap :
    let t := after .forwardCount (atPhase 4095 running)
    t.clock.phase = 0 ∧ t.clock.clampIndex = 1 ∧ t.clock.pitchCounter = 1 ∧ t.clock.pitchesSinceHome = 1
      ∧ t.clock.clampAt .nip = 14 ∧ t.clock.fired = #v[false, false, false, false, false, true, false] := by decide

/-- R3: the 33rd reverse count of a run halts the line with REVERSE. -/
theorem test_reverse :
    (after .reverseCount (withLag 31 running)).clock.lag = 32
    ∧ (after .reverseCount (withLag 32 running)).stoppage.haltCause = some .reverse := by decide

/-- R12: the 16th advance returns the line. -/
theorem test_standstill_return :
    let held15 : State := { inMode (.hold .standstill .run) s0 with
      clock := { s0.clock with mode := .hold .standstill .run, standstillTravel := 15 } }
    (after .forwardCount held15).clock.mode = .run ∧ (after .forwardCount held15).clock.standstillTimer = some 250 := by
  decide

/-- R11: the line holds when the 250 ms are over, and not before. -/
theorem test_standstill_expiry :
    (after .standstillExpiry (atTime 250 running)).clock.mode = .hold .standstill .run
    ∧ (after .standstillExpiry (atTime 249 running)).clock.mode = .run := by decide

theorem test_start : answer 1 (.start 1) s0 = (.ok, 0) ∧ (after (.start 1) s0).clock.mode = .homing := by decide +kernel

/-- R134's example: with a start of 4,096 and a length of 1,200 START fails with check 5. -/
theorem test_start_check :
    let t := after (.setCamWindow 1 4 0 5000) s0
    answer 1 (.setCamWindow 1 4 0 5000) s0 = (.adjusted, 4) ∧ t.cams[4].start = 4096
      ∧ answer 1 (.start 1) t = (.refusedRange, 5) := by decide

theorem test_runout : (after (.runout 1) (clamped 3 5 running)).clock.mode = .runout := by decide

/-- R24's example: JAM_B, then a supply event. -/
theorem test_halt :
    let t := running.sensorEdge .jamB
    let u := after .supplyEvent { t with stoppage := { t.stoppage with supply := .dipping false } }
    t.stoppage.haltCause = some .jamB ∧ u.stoppage.haltCause = some .jamB ∧ u.stoppage.furtherCause = true := by decide

/-- R185: a source asserted while the part is held lengthens the reset; R179: a SUPPLY reset waits for the supply. -/
theorem test_reset_lengthens :
    let end_ (c : ResetCause) : Instr := .resetEnd ⟨c, Vector.replicate 4 ⟨false, false⟩, Vector.replicate 4 false⟩
    let both := after .powerOnReset (after .pinReset s0)
    let low : State := { heldBy [.supply] with stoppage := { (heldBy [.supply]).stoppage with supply := .dipping true } }
    both.stoppage.asserted = [.pin, .powerOn] ∧ (after (end_ .pin) both).stoppage.held = true
    ∧ (after (end_ .powerOn) (after (end_ .pin) both)).stoppage.held = false
    ∧ (after (end_ .supply) low).stoppage.held = true
    ∧ (after (end_ .supply) (after .supplyReturn low)).stoppage.held = false := by decide +kernel

/-- R5's example: the first high period is dropped; the debounce time of 2 ms must have passed. -/
theorem test_debounce :
    let a := after (.sensorRawChange .block true) running
    let b := after (.sensorRawChange .block false) a
    a.clock.sensors[0].pending = some 2 ∧ b.clock.sensors[0].pending = none
      ∧ (after (.debounceExpiry .block) (atTime 1 a)).carousel.presence = false
      ∧ (after (.debounceExpiry .block) (atTime 2 a)).carousel.presence = true := by decide +kernel

/-! ### Book records: the examples of chapter 2 -/

/-- R33's example in small: ANNOUNCE seals the open book and opens the next. -/
theorem test_announce :
    let t := after (.announce 0 7 0 300000 280000 210000 200000 440000 5) opened
    t.books.announceQ = [417, 1] ∧ t.openBook = some 1 ∧ (t.findBook 417).map Book.state = some .sealed := by decide +kernel

/-- R35's example: 6 samples and 4 more leave the last 8. -/
theorem test_caliper :
    keepRecent ([1, 2, 3, 4, 5, 6] ++ [7, 8, 9, 10]) = [3, 4, 5, 6, 7, 8, 9, 10]
    ∧ answer 0 (.caliper 0 [100000]) opened = (.adjusted, 417) := by decide

/-- R28's example: 65534 last, 65535 and 1 live: serial 2. -/
theorem test_serial :
    let t := withSecond (book 1 .sealed) (withBook (book 65535 .sealed) s0)
    ({ t.books with lastSerial := 65534 } : BookTable).nextSerial = 2 := by decide

theorem test_seal : answer 0 (.seal 0) opened = (.ok, 417) := by decide

/-- R41's example: the open book withdrawn. -/
theorem test_withdraw :
    (after (.withdraw 0 417) opened).books.announceQ = [] ∧ (after (.withdraw 0 417) opened).books.withdrawn = 1
    ∧ answer 0 (.withdraw 0 5) opened = (.refusedUnknown, 5) := by decide

theorem test_rejectBook :
    ((after (.rejectBook 1 417) opened).findBook 417).bind Book.cause = some .operator := by decide +kernel

/-- R50: an early release leaves the list. -/
theorem test_takeReject :
    (after (.takeReject 0 (.wholeFrame 7)) (rejects 2 s0)).books.rejects.length = 2
    ∧ (after (.takeReject 0 (.wholeFrame 8)) (rejects 2 s0)).books.rejects.length = 1 := by decide

/-! ### Carousel, covers, glue, cams -/

/-- R82's example. -/
theorem test_locks :
    answer 1 (.lockClamp 1 30) s0 = (.refusedRange, 30) ∧ (after (.lockClamp 1 9) s0).carousel.locked 9 = true
    ∧ (after (.unlockClamp 1 9) (after (.lockClamp 1 9) s0)).carousel.locked 9 = false := by decide

/-- R90: a block at the Infeed with no queue is an unannounced book. -/
theorem test_admission :
    let s := atPhase 1023 { running with carousel := { running.carousel with presence := true } }
    let t := after .forwardCount s
    t.carousel.bookIn 0 = some 1 ∧ (t.findBook 1).bind Book.cause = some .unannounced
      ∧ t.due = [⟨1, false, false⟩] := by decide +kernel

/-- R9: Mill and Cover share the count 2,048 in the default table; each acts on its own clamp's book. -/
theorem test_two_stations :
    let s : State := clamped 21 5 (clamped 14 6 (withSecond { done 6 .inClamp with progress := some .sideGlue }
      (withBook { done 5 .inClamp with progress := some .infeed } { running with due := [⟨6, true, false⟩] })))
    let t := after .forwardCount { s with clock := { s.clock with
      phase := 2047, fired := #v[true, false, true, true, false, true, false] } }
    t.clock.fired = #v[true, true, true, true, true, true, false]
    ∧ (t.findBook 5).bind Book.progress = some .mill ∧ (t.findBook 6).bind Book.cause = some .coverLate
    ∧ t.due = [] := by decide +kernel

/-- R107's example: book 903 and another cover. -/
theorem test_coverSeen :
    let s : State := { withBook { book 903 .inClamp with expectedCover := 0x7E110903 } s0 with due := [⟨903, true, false⟩] }
    let t := after (.coverSeen 2 903 0x7E110930) s
    answer 2 (.coverSeen 2 903 0x7E110930) s = (.notApplied, 903)
      ∧ (t.findBook 903).bind Book.cause = some .coverMismatch ∧ t.due = [⟨903, false, true⟩] := by decide +kernel

/-- R117's examples. -/
theorem test_filter :
    let p : Pot := { s0.glue.spine with state := .ready, filtered := 1600 }
    p.filter 1750 = 1637 ∧ ({ p with filtered := 1750 } : Pot).filter 1700 = 1738 := by decide

/-- R121: a reading and the stale expiry at one moment: the one taken first decides. -/
theorem test_stale_tie :
    let cold := atTime 2000 (after (.glueReading 1 0 1000) s0)
    (after (.staleExpiry .spine) (after (.glueReading 1 0 1000) cold)).glue.spine.state = .cold
    ∧ (after (.staleExpiry .spine) cold).glue.spine.state = .unknown := by decide +kernel

/-- R118's example: 1,697 keeps READY, 1,660 makes COLD. -/
theorem test_pot_table :
    let p := s0.glue.spine
    PotState.decide .ready (p.bandOf 1697) = .ready ∧ PotState.decide .ready (p.bandOf 1660) = .cold := by decide

/-- R137's example: the MILL window at the wrap, and its end. -/
theorem test_window :
    let c : CamChannel := { s0.cams[1] with window := some ⟨3, 0, 3800, 2047⟩ }
    c.advance.window = some ⟨3, 0, 3800, 2048⟩
      ∧ ({ c with window := some ⟨3, 0, 3800, 3799⟩ } : CamChannel).advance.window = none := by decide

theorem test_forceCam : (after (.forceCam 1 2 1) s0).camOutput 2 = true ∧ s0.camOutput 2 = false := by decide

/-! ### Lifts -/

/-- R160's example: 254 last, lifts 255 and 1 held: lift 2. -/
theorem test_lift_number :
    ({ (lifts [lift 255 .closed [], lift 1 .closed []] s0).lifting with lastNumber := 254 } : LiftBuilder).nextNumber
      = 2 := by decide

/-- R169's example. -/
theorem test_takeLift :
    let s := lifts [lift 14 .dispatched [], lift 15 .closed [], lift 16 .opened []] s0
    let t := after (.cutDone 3 14 0) s
    answer 3 (.takeLift 3 15) s = (.refusedBusy, 15) ∧ answer 3 (.takeLift 3 16) t = (.refusedOrder, 16)
      ∧ answer 3 (.takeLift 3 15) t = (.ok, 15) := by decide

/-- R153: a cooling expiry and the lift window expiry at one moment: a join taken first keeps the lift OPEN. -/
theorem test_window_tie :
    let s := atTime 1500 (withSecond { done 6 .cooling with coolingDeadline := some 1500 }
      (withBook (done 5 .inLift) { lifts [lift 1 .opened [5]] s0 with delivery := [6] }))
    let t := after .windowTimerExpiry (after (.coolingExpiry 6) s)
    t.lifting.lifts.map Lift.state = [.opened] ∧ t.lifting.lifts.map Lift.books = [[5, 6]]
    ∧ (after .windowTimerExpiry s).lifting.lifts.map Lift.state = [.closed] := by decide +kernel

/-- R172's example: two books of lift 43 cut with a fault. -/
theorem test_cutDone :
    let s := lifts [lift 43 .dispatched [1, 2]] (withSecond (done 2 .cutting) (withBook (done 1 .cutting) s0))
    let t := after (.cutDone 3 43 1) s
    t.books.rejected = 2 ∧ t.books.rejects.map RejectEntry.cause = [.trimFault, .trimFault]
      ∧ t.lifting.lifts = [] := by decide +kernel

/-! ### Configuration -/

/-- R55's example: a hinge offset of 14,000 is brought to 12,000. -/
theorem test_setJobClass :
    answer 1 (.setJobClass 1 2 1 14000) s0 = (.adjusted, 2)
    ∧ (after (.setJobClass 1 2 1 14000) s0).setpoints.classes[2].hingeOffset = 12000 := by decide

theorem test_setGaugeCal : (after (.setGaugeCal 1 2 (BitVec.ofInt 32 (-120))) s0).setpoints.gauge.offset = -120 := by
  decide

theorem test_configuration_refused :
    answer 1 (.setTimers 1 0 100) running = (.refusedMode, 0)
    ∧ answer 3 (.setTimers 3 0 100) observed = (.refusedRole, 0) := by decide

/-! ### Answers -/

/-- The lengths of R202. -/
theorem test_answer_lengths :
    s0.statusAnswer.length = 46 ∧ (s0.bookAnswer 1).length = 117 ∧ s0.configAnswer.length = 282
    ∧ s0.liftsAnswer.length = 168 ∧ s0.nextLiftAnswer.length = 52 ∧ s0.nextDueAnswer.length = 22 := by decide +kernel

/-- R207: what READ IDENT answers on P2. -/
theorem test_ident : s0.identAnswer 2 = [0x24, 0x16, 0x01, 0x02, 0x02] := by decide

/-! ### A state for every clause of every statement with hypotheses

Each theorem shows states and operands that meet the hypotheses of one statement of Certificates/Slice0/Obligations.lean,
clause by clause in its order, at the ends of a range where the clause has one. -/

theorem witness_StepRunsFrontCommand :
    ({ s0 with pending := [.forwardCount] } : State).pending = .forwardCount :: [] := by decide

theorem witness_IdlePostsTheExpiriesDue :
    (s0.pending = [] ∧ s0.arriving = [] ∧ s0.stoppage.held = false)
    ∧ (held.pending = [] ∧ held.arriving = [] ∧ held.stoppage.held = true)
    ∧ (s0.pending = [] ∧ ({ s0 with arriving := [(0, .selectFall)] } : State).arriving = (0, .selectFall) :: []) := by
  decide

theorem witness_ResetsBeginAndHoldThePart :
    s0.stoppage.held = false ∧ s0.ports[1].role = .binder ∧ s0.ports[0].role ≠ .binder
    ∧ held.stoppage.held = true ∧ ResetCause.pin ∈ held.stoppage.asserted ∧ ResetCause.powerOn ∉ held.stoppage.asserted
    ∧ held.stoppage.supply = .clear
    ∧ ({ held.stoppage with supply := .dipping false } : Stoppage).supply ≠ .clear
    ∧ Instr.forwardCount ∉ [Instr.powerOnReset, .pinReset, .supplyDipStart, .supplyReturn] := by decide

/-- The last source, one of two, one that does not stand, and the supply's while the supply is low. -/
theorem witness_ResetEndRestoresResetValues :
    (held.stoppage.held = true ∧ ResetCause.pin ∈ held.stoppage.asserted ∧ held.stoppage.asserted.erase .pin = [])
    ∧ ((heldBy [.pin, .powerOn]).stoppage.held = true ∧ (heldBy [.pin, .powerOn]).stoppage.supply = .clear
      ∧ (heldBy [.pin, .powerOn]).stoppage.asserted.erase .powerOn ≠ [])
    ∧ ResetCause.powerOn ∉ held.stoppage.asserted
    ∧ (let s : State := heldBy [.supply]
       let low : State := { s with stoppage := { s.stoppage with supply := .dipping true } }
       low.stoppage.held = true ∧ ResetCause.supply ∈ low.stoppage.asserted ∧ low.stoppage.supply ≠ .clear)
    ∧ s0.stoppage.held = false := by decide

theorem witness_RolesAreTakenAtResetEndOnly :
    (let straps : Vector Straps 4 := #v[⟨false, false⟩, ⟨false, false⟩, ⟨true, false⟩, ⟨true, true⟩]
     straps[0] = straps[1] ∧ ∀ q : PortId, q < 3 → straps[q] ≠ straps[3])
    ∧ exec .forwardCount held = .next held := ⟨by decide, by rfl⟩

theorem witness_RightsAreTestedFirst :
    ((Instr.seal 1).actionPort = some 1 ∧ s0.stoppage.held = false ∧ (Instr.seal 1).takenFrom s0.ports[1].role = false)
    ∧ (Instr.setTimers 1 0 100).isConfigWrite = true ∧ (Instr.setTimers 1 0 100).actionPort = some 1
      ∧ running.stoppage.held = false ∧ running.ports[1].role ≠ .observer ∧ running.clock.mode ≠ .setup := by decide

theorem witness_ResultsAndRaisesReachTheirPorts :
    (1 : PortId) ≠ 0 ∧ s0.stoppage.held = false ∧ s0.ports[0].attnMode = .level
    ∧ (after (.setAttention 0 511 1) s0).stoppage.held = false
    ∧ (after (.setAttention 0 511 1) s0).ports[0].attnMode = .pulse := by decide

theorem witness_ReadsOnlySnapshot : s0.stoppage.held = false := by decide

/-- The last clamp of an answer; books in the queues; an entry of each list; the lift list's places, a CLOSED lift behind
the DISPATCHED one; an entry that has its report before one that has none. -/
theorem witness_AnswersHaveTheTableLayout :
    (LineMode.setup.name ≠ .hold ∧ LineMode.halted.name ≠ .hold)
    ∧ (let s := after (.setAttention 0 511 0) (s0.raise .mode)
     s.ports[0].latches.getLsbD 7 = true ∧ s.ports[0].enables.getLsbD 7 = true ∧ s0.ports[0].latches = 0)
    ∧ 23 < s0.clock.geometry.clampCount
    ∧ (opened.findBook 417 = some (book 417 .announced) ∧ opened.books.announceQ[0 + 0]? = some 417)
    ∧ (let s := { withBook (done 5 .cooling) s0 with delivery := [4, 5], due := [⟨4, true, true⟩, ⟨5, true, false⟩] }
       s.findBook 5 = some (done 5 .cooling) ∧ s.delivery[1 + 0]? = some 5
       ∧ s.due[0 + 1]? = some ⟨5, true, false⟩
       ∧ (s.due = [⟨4, true, true⟩] ++ ⟨5, true, false⟩ :: [] ∧ ∀ d ∈ [(⟨4, true, true⟩ : DueEntry)], d.received = true)
       ∧ ∀ e ∈ s0.due, e.received = true)
    ∧ (rejects 3 s0).books.rejects[1 + 1]? = some ⟨5, 0, .wedge, .release⟩
    ∧ (let s := lifts [lift 1 .dispatched [4], lift 2 .closed [5]] (withBook (done 5 .inLift) s0)
       s.lifting.lifts[3]? = none ∧ s.lifting.lifts[1]? = some (lift 2 .closed [5])
       ∧ s.lifting.lifts = [lift 1 .dispatched [4]] ++ lift 2 .closed [5] :: []
       ∧ (∀ m ∈ [lift 1 .dispatched [4]], m.state ≠ .closed) ∧ (lift 2 .closed [5]).state = .closed
       ∧ (lift 2 .closed [5]).books.head? = some 5 ∧ s.findBook 5 = some (done 5 .inLift)
       ∧ (done 5 .inLift).job = some job417 ∧ (done 5 .inLift).setPoints = some points417
       ∧ ∀ l ∈ s0.lifting.lifts, l.state ≠ .closed) := by decide +kernel

theorem witness_BookFieldsStandWhereTheTablePutsThem :
    s0.findBook 417 = none ∧ opened.findBook 417 = some (book 417 .announced) := by decide +kernel

theorem witness_AttentionAndFailedFramesActOnTheirPort :
    s0.stoppage.held = false ∧ (511 : Word16).toNat < 512 ∧ 512 ≤ (512 : Word16).toNat ∧ 2 ≤ (2 : Byte).toNat
    ∧ isFrameError [0x22, 0] false = true ∧ isFrameError [] true = true ∧ isAbandonable [] = true
    ∧ isAbandonable [0x22] = true ∧ s0.wires[0].gap = none ∧ s0.ports[0].pulse = none
    ∧ (let s := wired [] 0 (framing .collecting [0x22] s0)
       s.wires[0].gap = some 2 ∧ 2 ≤ (atTime 2 s).now ∧ s.ports[0].collected = [0x22]
       ∧ s.ports[0].frame = .collecting ∧ (atTime 1 s).now < 2 ∧ s.stoppage.held = false)
    ∧ (let s := (after (.setAttention 3 511 1) s0).raise .reject
       s.ports[3].pulse = some 1 ∧ (atTime 1 s).now = 1 ∧ s.now < 1 ∧ s.stoppage.held = false) := by decide +kernel

/-- The longest CALIPER; and on the lines every frame state, the sixth, seventh and eighth bit of a byte, a read complete
and not, TAKE REJECT at its code, an unknown code, and every way a frame can end. -/
theorem witness_FramesReadBack :
    ((Instr.caliper 0 (List.replicate 255 99999)).wellFormed = true
      ∧ portOf (.caliper 0 (List.replicate 255 99999)) = some 0
      ∧ (encodeFrame (.caliper 0 (List.replicate 255 99999))).isSome = true)
    ∧ (s0.stoppage.held = false ∧ s0.ports[0].frame = .idle)
    ∧ (let s := wired (List.replicate 6 true) 0 (framing .collecting [] s0)
       s.ports[0].frame = .collecting ∧ s.wires[0].bits.length < 7)
    ∧ (let s := wired (List.replicate 7 true) 8 (framing .answering [0x0D] s0)
       s.ports[0].frame = .answering ∧ s.wires[0].bits.length = 7)
    ∧ (let s := wired [false, false, true, false, false, false, true] 0 (framing .collecting [] s0)
       s.wires[0].bits.length = 7
       ∧ ∀ k : Fin 8, some ((0x22 : Byte).getMsbD k) = (s.wires[0].bits ++ [false])[k.val]?)
    ∧ (isFrameError [0x51, 1] false = true ∧ [(0x21 : Byte), 0].tail.head? = some 0)
    ∧ (frameShape 0x99 = none ∧ frameShape 0x05 = some (.read 2) ∧ [(0x05 : Byte), 0, 1].length = 2 + 1
      ∧ [(0x05 : Byte), 0].length ≠ 2 + 1 ∧ frameShape 0x0D ≠ none ∧ [(0x0D : Byte)].length = 1
      ∧ frameShape 0x22 ≠ none ∧ ∀ n, frameShape 0x22 ≠ some (.read n))
    ∧ (let s := after (.takeReject 0 .commandByte) (rejects 1 s0)
       s.ports[0].frame = .answering ∧ s.ports[0].taking ≠ none ∧ s.ports[0].collected = [0x0D]
       ∧ (wired [true] 8 s).wires[0].bits ≠ [] ∧ 8 ≤ (wired [true] 8 s).wires[0].answered
       ∧ (wired [] 7 s).wires[0].answered < 8)
    ∧ (let s := wired [] 0 (framing .collecting [] s0)
       s.ports[0].frame = .collecting ∧ s.ports[0].collected = [] ∧ s.wires[0].bits = [] ∧ s.wires[0].edge = true)
    ∧ (let s := after (.readIdent 0) s0
       s.ports[0].frame = .answering ∧ s.ports[0].taking = none
       ∧ s.ports[0].snapshot = some ⟨s0.identAnswer 0, false⟩)
    ∧ ((framing .discarding [] s0).ports[0].frame = .discarding ∧ (framing .discarding [] s0).ports[0].collected = []
      ∧ (framing .discarding [0x99] s0).ports[0].collected ≠ []) :=
  ⟨by decide +kernel, by decide, by decide, by decide, by decide +kernel, by decide,
    ⟨by decide, by decide, by decide, by decide, by decide, by decide, by decide, fun n => by simp [frameShape]⟩,
    by decide, by decide, by decide, by decide⟩

/-- The first slot is free, then the second; four lifts are the most a lift list holds. -/
theorem witness_SlotSerialAndLiftNumberAllocation :
    s0.books.slots[0] = none ∧ opened.books.slots[1] = none ∧ opened.books.slots[0] ≠ none
    ∧ (lifts [lift 1 .closed [], lift 2 .closed [], lift 3 .closed [], lift 4 .opened []] s0).lifting.lifts.length
      ≤ 4 := by decide

/-- A queue of 8, one of 7, a job at the low end of every range, and one above. -/
theorem witness_AnnounceCreatesTheOpenBook :
    let eight := queued [1, 2, 3, 4, 5, 6, 7, 8] s0
    let seven := queued [1, 2, 3, 4, 5, 6, 7] s0
    (eight.stoppage.held = false ∧ eight.ports[0].role = .gather ∧ 8 ≤ eight.books.announceQ.length)
    ∧ (seven.stoppage.held = false ∧ seven.ports[0].role = .gather ∧ seven.books.announceQ.length < 8)
    ∧ (⟨1, 7, 100000, 90000, 80000, 70000, 150000⟩ : Job).inRange = true
    ∧ (⟨1, 8, 100000, 90000, 80000, 70000, 150000⟩ : Job).inRange = false
    ∧ (opened.openBook = some 417 ∧ opened.books.slots[0] = some (book 417 .announced) ∧ s0.openBook = none
      ∧ (queued [417] (withBook (book 417 .sealed) s0)).openBook = none) := by decide

theorem witness_CaliperFeedsTheOpenBook :
    s0.stoppage.held = false ∧ s0.ports[0].role = .gather
    ∧ ([] : List Word24).length = 0 ∧ 8 < (List.replicate 9 (1 : Word24)).length
    ∧ (1 ≤ [(1 : Word24)].length ∧ (List.replicate 8 (1 : Word24)).length ≤ 8 ∧ s0.openBook = none)
    ∧ opened.stoppage.held = false ∧ opened.ports[0].role = .gather ∧ opened.openBook = some 417 := by decide +kernel

/-- A book with a cause, one that computes, one that fails; the open book and none; the seal timer running, due at 400. -/
theorem witness_SealingComputesOnce :
    (withBook { book 417 .announced with cause := some .specRange } s0).findBook 417
      = some { book 417 .announced with cause := some .specRange }
    ∧ opened.findBook 417 = some (book 417 .announced)
    ∧ (computeSetPoints job417 samples417 class2 gauge 4096 600000).toOption = some (points417, Warnings.none)
    ∧ (computeSetPoints job417 [] class2 gauge 4096 600000).toOption = none
    ∧ opened.openBook = some 417 ∧ s0.openBook = none ∧ s0.ports[0].role = .gather
    ∧ ({ opened.books with sealTimer := some 400 } : BookTable).sealTimer = some 400
    ∧ 400 ≤ (atTime 400 opened).now ∧ (atTime 399 opened).now < 400 ∧ s0.books.sealTimer = none := by decide +kernel

theorem witness_WithdrawAndRejectBook :
    (let eight := queued [1, 2, 3, 4, 5, 6, 7, 8] s0
     eight.stoppage.held = false ∧ eight.ports[0].role = .gather ∧ 8 ∈ eight.books.announceQ
     ∧ eight.books.announceQ.length = 8 ∧ 9 ∉ eight.books.announceQ)
    ∧ (417 ∈ opened.books.announceQ ∧ opened.books.announceQ.length ≠ 8 ∧ opened.ports[0].role = .gather)
    ∧ s0.ports[1].role ≠ .observer ∧ s0.findBook 417 = none
    ∧ (opened.findBook 417).map Book.state = some .announced
    ∧ ((withBook (done 1 .cooling) s0).findBook 1).map Book.state = some .cooling := by decide +kernel

/-- A step that keeps a book with its cause in its slot. -/
theorem witness_ARejectCauseStays :
    let s := withBook (unannouncedBook 5) { s0 with pending := [.supplyDipStart] }
    (∃ t, step s = .next t ∧ t.books.slots[0] = some (unannouncedBook 5)) ∧ s.books.slots[0] = some (unannouncedBook 5)
    ∧ (unannouncedBook 5).cause = some .unannounced := ⟨⟨_, rfl, by decide⟩, by decide, by decide⟩

theorem witness_RetirementAndTheRejectList :
    (rejects 15 s0).books.rejects.length < 16 ∧ (rejects 16 s0).books.rejects.length = 16
    ∧ opened.findBook 417 = some (book 417 .announced) := by decide +kernel

/-- Both roles, 7 and 8 bytes, a list of one and an empty one; a TAKE REJECT in progress with its entry at the head, with
its entry gone, and with an empty snapshot; and none in progress. -/
theorem witness_TakeRejectTakesTheOldest :
    s0.stoppage.held = false ∧ s0.ports[0].role = .gather ∧ s0.ports[1].role ≠ .gather ∧ (8 ≤ 8 ∧ 7 < 8)
    ∧ (rejects 1 s0).books.rejects = ⟨5, 0, .wedge, .release⟩ :: [] ∧ s0.books.rejects = []
    ∧ s0.ports[0].taking = none
    ∧ (let s := after (.takeReject 0 .commandByte) (rejects 1 s0)
       s.ports[0].taking = some ⟨some ⟨5, 0, .wedge, .release⟩, 0⟩ ∧ s.ports[0].role = .gather
       ∧ s.books.rejectsGone = 0 ∧ ({ s.books with rejectsGone := 1 } : BookTable).rejectsGone ≠ 0)
    ∧ (after (.takeReject 0 .commandByte) s0).ports[0].taking = some ⟨none, 0⟩
    ∧ ((after (.takeReject 1 .commandByte) s0).ports[1].taking = some ⟨none, 0⟩
      ∧ (after (.takeReject 1 .commandByte) s0).ports[1].role ≠ .gather) := by decide

theorem witness_ScoresStandInOrder :
    class2.InRange ∧ job417.InRange
    ∧ (computeSetPoints job417 samples417 class2 gauge 4096 600000).toOption = some (points417, Warnings.none) :=
  ⟨by unfold JobClass.InRange; decide, by unfold Job.InRange; decide, by decide +kernel⟩

/-- The worked case, and the smallest pitch in counts with the longest in length; three and four samples; a book that
fails at each stage and at none; a margin whose start lies within E, windows clipped and not, cooling capped and not. -/
theorem witness_SetPointsStayInTheirRanges :
    (class2.InRange ∧ job417.InRange ∧ (1024 ≤ 1024 ∧ 200000 ≤ 1200000 ∧ 1200000 ≤ 1200000)
      ∧ (computeSetPoints job417 samples417 class2 gauge 1024 1200000).toOption.isSome = true)
    ∧ (([1, 2, 3] : List Nat).length < 4 ∧ ([5, 1, 9, 4] : List Nat).Perm (1 :: 9 :: [5, 4])
      ∧ (∀ x ∈ [5, 1, 9, 4], 1 ≤ x) ∧ ∀ x ∈ [5, 1, 9, 4], x ≤ 9)
    ∧ failure (computeSetPoints job417 [] class2 gauge 4096 600000) = some .noCaliper
    ∧ failure (computeSetPoints job417 [18100, 18800] class2 gauge 4096 600000) = some .wedge
    ∧ failure (computeSetPoints job417 [1000] class2 gauge 4096 600000) = some .caliperRange
    ∧ failure (computeSetPoints { job417 with rawHeight := 298000 } samples417 class2 gauge 4096 600000)
        = some .trimMargin
    ∧ failure (computeSetPoints { job417 with coverWidth := 440000 } samples417 class2 gauge 4096 600000)
        = some .coverShort
    ∧ failure (computeSetPoints { job417 with coverWidth := 27000, width := 0 } samples417 class2 gauge 4096 600000)
        = some .scoreReach
    ∧ failure (computeSetPoints job417 samples417 class2 gauge 4096 600000) = none
    ∧ (countsOf 4096 600000 4000 ≤ 4096 ∧ 4096 < countsOf 4096 200000 4000 + countsOf 4096 200000 (303010 - 8000)
      ∧ countsOf 4096 600000 4000 + countsOf 4096 600000 (303010 - 8000) ≤ 4096)
    ∧ class2.sideUsed = true ∧ ({ class2 with sideUsed := false } : JobClass).sideUsed = false
    ∧ 600000 < 300000 + 63500 * 10000 / 1000 :=
  ⟨⟨by unfold JobClass.InRange; decide, by unfold Job.InRange; decide, by decide, by decide +kernel⟩, by decide,
    by decide +kernel, by decide +kernel, by decide +kernel, by decide +kernel, by decide +kernel, by decide +kernel,
    by decide +kernel, by decide, rfl, rfl, by decide⟩

theorem witness_ClampsAreLockedAndResolved :
    (s0.stoppage.held = false ∧ s0.clock.geometry.clampCount ≤ 32 ∧ observed.ports[3].role = .observer
      ∧ observed.stoppage.held = false ∧ observed.clock.geometry.clampCount ≤ 32)
    ∧ (s0.ports[0].role ≠ .observer ∧ s0.clock.geometry.clampCount ≤ (24 : Byte).toNat
      ∧ (23 : Byte).toNat < s0.clock.geometry.clampCount)
    ∧ (s0.ports[1].role = .binder ∧ running.ports[1].role = .binder ∧ running.clock.mode ≠ .setup)
    ∧ (s0.clock.mode = .setup ∧ 2 ≤ (2 : Byte).toNat ∧ s0.carousel.bookIn 23 = none)
    ∧ (clamped 0 417 s0).carousel.bookIn 0 = some 417 ∧ (clamped 0 417 s0).clock.mode = .setup
      ∧ (clamped 0 417 s0).ports[1].role = .binder ∧ 0 < (clamped 0 417 s0).clock.geometry.clampCount := by decide

/-- The Infeed event at phase 1,024 with every condition standing. -/
theorem witness_AdmissionOnlyUnderItsConditions :
    let s := atPhase 1023 { running with carousel := { running.carousel with presence := true } }
    s.carousel.bookIn 0 = none ∧ (after .forwardCount s).carousel.bookIn 0 ≠ none := by decide +kernel

/-- Every condition standing and one missing; a queue whose head is the open book, one of 8 whose head is sealed, and an
empty queue with the first slot free. -/
theorem witness_AdmissionTakesTheHead :
    let s : State := { running with carousel := { running.carousel with presence := true } }
    let q := queued [417] (withBook (book 417 .announced) s)
    let eight := queued [417, 2, 3, 4, 5, 6, 7, 8] (withBook (done 417 .sealed) s)
    s.admissionHolds 23 = true ∧ running.admissionHolds 23 = false
    ∧ (q.admissionHolds 0 = true ∧ q.books.announceQ = 417 :: [] ∧ q.openBook = some 417
      ∧ ((q.sealBook 417).findBook 417).isSome = true)
    ∧ (eight.admissionHolds 0 = true ∧ eight.books.announceQ.length = 8 ∧ eight.openBook ≠ some 417
      ∧ eight.findBook 417 = some (done 417 .sealed))
    ∧ (s.books.announceQ = [] ∧ s.books.slots[0] = none
      ∧ ∀ j : Fin Config.slotCount, j < 0 → s.books.slots[j] ≠ none) := by decide +kernel

/-- An empty clamp, a book at or beyond the station, and one behind it. -/
theorem witness_StationEventsConcernBooksBehindThem :
    let s := clamped 21 5 (withBook { done 5 .inClamp with progress := some .mill } s0)
    Station.mill ≠ .infeed ∧ s0.carousel.bookIn (s0.clock.clampAt .mill) = none
    ∧ s.carousel.bookIn (s.clock.clampAt .mill) = some 5
    ∧ s.findBook 5 = some { done 5 .inClamp with progress := some .mill }
    ∧ Station.mill.index.val ≤ progressIndex (some .mill) ∧ progressIndex (some .infeed) < Station.mill.index.val := by
  decide +kernel

theorem witness_MissedStationsCostTheBook :
    (withBook (done 5 .inClamp) s0).findBook 5 = some (done 5 .inClamp)
    ∧ ((done 5 .inClamp).setPoints.bind SetPoints.sideWindow).isSome = true ∧ s0.glue.side.enabled = true
    ∧ ¬ (((book 5 .inClamp).setPoints.bind SetPoints.sideWindow).isSome = true ∧ s0.glue.side.enabled = true)
    ∧ (withBook (book 5 .inClamp) s0).findBook 5 = some (book 5 .inClamp)
    ∧ ({ done 5 .inClamp with coverApplied := true } : Book).coverApplied = true
    ∧ (done 5 .inClamp).coverApplied = false := by decide +kernel

/-- The pots READY and not; a book with and without a cause; with and without a side window; covered and not. -/
theorem witness_WorkingStationsActByCauseAndPot :
    (withBook (done 5 .inClamp) running).findBook 5 = some (done 5 .inClamp) ∧ (done 5 .inClamp).cause = none
    ∧ (done 5 .inClamp).setPoints = some points417 ∧ (unannouncedBook 5).cause ≠ none
    ∧ running.glue.spine.state = .ready ∧ s0.glue.spine.state ≠ .ready
    ∧ ({ points417 with sideWindow := none } : SetPoints).sideWindow = none
    ∧ points417.sideWindow = some ⟨102, 1864⟩ ∧ running.glue.side.enabled = true
    ∧ running.glue.side.state = .ready ∧ s0.glue.side.state ≠ .ready
    ∧ (done 5 .inClamp).coverApplied = false
    ∧ ({ done 5 .inClamp with coverApplied := true } : Book).cause = none := by decide +kernel

theorem witness_CoverReportsAndTheCoverDecision :
    let s : State := { withBook (done 903 .inClamp) s0 with due := [⟨903, true, false⟩] }
    (s.stoppage.held = false ∧ s.ports[2].role = .cover ∧ s.due.find? (fun e => e.serial == 903) = some ⟨903, true, false⟩
      ∧ s.findBook 903 = some (done 903 .inClamp))
    ∧ ({ done 903 .inClamp with cause := some .operator } : Book).cause ≠ none
    ∧ (done 903 .inClamp).expectedCover = 0
    ∧ (({ done 903 .inClamp with expectedCover := 7 } : Book).expectedCover ≠ 0
      ∧ ({ done 903 .inClamp with expectedCover := 7 } : Book).expectedCover ≠ 8)
    ∧ (s0.due.find? (fun e => e.serial == 903) = none ∧ s0.findBook 903 = none)
    ∧ (opened.due.find? (fun e => e.serial == 417) = none ∧ (opened.findBook 417).map Book.state = some .announced)
    ∧ ((withBook (done 903 .cooling) s0).findBook 903).map Book.state = some .cooling
    ∧ (⟨903, true, true⟩ : DueEntry).received = true := by decide +kernel

/-- A book without and with a cause, outside RUNOUT and in it; an emptying that leaves the map empty and one that does
not. -/
theorem witness_ReleaseByCause :
    ((withBook (done 5 .inClamp) running).findBook 5 = some (done 5 .inClamp)
      ∧ (withBook (done 5 .inClamp) running).clock.mode ≠ .runout ∧ (done 5 .inClamp).cause = none
      ∧ (done 5 .inClamp).setPoints = some points417
      ∧ (withBook (done 5 .inClamp) (inMode .runout s0)).findBook 5 = some (done 5 .inClamp)
      ∧ (withBook (done 5 .inClamp) (inMode .runout s0)).clock.mode = .runout)
    ∧ ((withBook (unannouncedBook 5) running).findBook 5 = some (unannouncedBook 5)
      ∧ (withBook (unannouncedBook 5) (inMode .runout s0)).findBook 5 = some (unannouncedBook 5)
      ∧ (unannouncedBook 5).cause = some .unannounced)
    ∧ (inMode .runout s0).clock.mode = .runout
    ∧ (∀ entry ∈ (clamped 3 5 (inMode .runout s0)).carousel.clampMap.set 3 none, entry = none)
    ∧ (∃ entry ∈ (clamped 4 5 (inMode .runout s0)).carousel.clampMap.set 3 none, entry ≠ none) := by decide +kernel

/-- HALTED; a lag of 1; and advances in SETUP, RUN, HOMING and a STANDSTILL hold at which nothing is due. -/
theorem witness_ForwardCountMovesTheMark :
    (inMode .halted s0).clock.mode = .halted
    ∧ ((withLag 1 s0).clock.mode ≠ .halted ∧ 0 < (withLag 1 s0).clock.lag)
    ∧ (s0.stoppage.held = false ∧ s0.clock.lag = 0 ∧ s0.clock.phase + 1 < s0.clock.geometry.pitchCounts
      ∧ s0.clock.pitchesSinceHome ≤ s0.clock.geometry.clampCount + 1)
    ∧ (let s : State := { running with clock := { running.clock with
           phase := 4094, fired := Vector.replicate 7 true, pitchesSinceHome := 25 } }
       s.clock.phase + 1 < s.clock.geometry.pitchCounts ∧ s.clock.pitchesSinceHome ≤ s.clock.geometry.clampCount + 1
       ∧ s.onlyStationDue 4095 none)
    ∧ (let s : State := { s0 with clock := { s0.clock with mode := .homing, homingTravel := 106495 } }
       s.clock.homingTravel < (s.clock.geometry.clampCount + 2) * s.clock.geometry.pitchCounts)
    ∧ (let s : State := { s0 with clock := { s0.clock with mode := .hold .standstill .run, standstillTravel := 14 } }
       s.clock.mode = .hold .standstill .run ∧ s.clock.standstillTravel + 1 < 16)
    ∧ ((false, true), (false, false)) ∈ [((false, true), (false, false))] ∧ ((true, true), (false, false)) ∉
      [((false, true), (false, false)), ((false, false), (false, true))] := by
  refine ⟨by decide, by decide, by decide, ⟨by decide, by decide, fun m => by cases m <;> decide⟩, by decide, by decide,
    by decide, by decide⟩

/-- SETUP, HOMING short of its limit, RUN, both holds, the limit of pitches since home and one past it, in a pitch and at
the wrap; SpineGlue alone due, and no station. -/
theorem witness_StationsFireAndPitchesWrap :
    let wrap : State := atPhase 4095 running
    (s0.stoppage.held = false ∧ s0.clock.lag = 0 ∧ s0.clock.mode = .setup)
    ∧ (let s : State := { s0 with clock := { s0.clock with mode := .homing, homingTravel := 106495 } }
       s.clock.mode = .homing
       ∧ s.clock.homingTravel < (s.clock.geometry.clampCount + 2) * s.clock.geometry.pitchCounts)
    ∧ (wrap.marked.clock.pitchesSinceHome ≤ wrap.clock.geometry.clampCount + 1 ∧ wrap.clock.lag = 0
      ∧ wrap.stoppage.held = false ∧ wrap.clock.mode = .run ∧ (inMode .runout wrap).clock.mode = .runout
      ∧ (inMode (.hold .commanded .run) wrap).clock.mode = .hold .commanded .run)
    ∧ (let s : State := { s0 with clock := { s0.clock with mode := .hold .standstill .runout, standstillTravel := 14 } }
       s.clock.mode = .hold .standstill .runout ∧ s.clock.standstillTravel + 1 < 16
       ∧ s.marked.clock.pitchesSinceHome ≤ s.clock.geometry.clampCount + 1)
    ∧ (let s : State := { wrap with clock := { wrap.clock with pitchesSinceHome := 25 } }
       s.clock.mode.stationsFire = true ∧ s.clock.geometry.clampCount + 1 < s.marked.clock.pitchesSinceHome)
    ∧ (let s : State := { running with clock := { running.clock with
         phase := 512, fired := #v[false, false, false, true, false, true, false] } }
       s.onlyStationDue s.clock.phase (some .spineGlue))
    ∧ s0.onlyStationDue s0.clock.phase (some .nip) ∧ 0 < s0.clock.geometry.clampCount
    ∧ ({ s0 with clock := { s0.clock with fired := Vector.replicate 7 true } } : State).onlyStationDue 0 none := by
  refine ⟨by decide, by decide, by decide, by decide, by decide, fun m => by cases m <;> decide,
    fun m => by cases m <;> decide, by decide, fun m => by cases m <;> decide⟩

/-- HALTED; a lag of 31, 32 and 33 at the tolerance 32, in SETUP and started. -/
theorem witness_ReverseCountRaisesTheLag :
    s0.stoppage.held = false ∧ (inMode .halted s0).clock.mode = .halted
    ∧ ((withLag 31 s0).clock.mode ≠ .halted ∧ (withLag 31 s0).clock.lag < s0.clock.geometry.reverseTolerance)
    ∧ ((withLag 32 s0).clock.mode = .setup ∧ (withLag 32 s0).clock.lag = s0.clock.geometry.reverseTolerance)
    ∧ ((withLag 32 running).clock.mode.started = true ∧ (withLag 32 running).clock.lag = 32)
    ∧ ((withLag 33 s0).clock.mode = .setup ∧ s0.clock.geometry.reverseTolerance < (withLag 33 s0).clock.lag)
    ∧ ((withLag 33 running).clock.mode.started = true ∧ 32 < (withLag 33 running).clock.lag) := by decide

/-- Each limit just passed, just not reached, and just about to be passed; and the returns. -/
theorem witness_TravelLimitsAct :
    let homing (n : Nat) : State := { s0 with clock := { s0.clock with mode := .homing, homingTravel := n } }
    let since (n : Nat) : State := { running with clock := { running.clock with pitchesSinceHome := n } }
    let hold (n : Nat) : State :=
      { s0 with clock := { s0.clock with mode := .hold .standstill .runout, standstillTravel := n } }
    (s0.stoppage.held = false ∧ (homing 106497).clock.mode = .homing
      ∧ (homing 106496).clock.homingTravel = ((homing 0).clock.geometry.clampCount + 2) * 4096
      ∧ ((homing 0).clock.geometry.clampCount + 2) * 4096 < (homing 106497).clock.homingTravel
      ∧ s0.clock.mode ≠ .homing ∧ (homing 106496).clock.lag = 0)
    ∧ ((since 26).clock.mode.stationsFire = true ∧ 24 + 1 < (since 26).clock.pitchesSinceHome
      ∧ (since 25).clock.pitchesSinceHome ≤ 24 + 1 ∧ s0.clock.mode.stationsFire = false
      ∧ s0.clock.geometry.clampCount = 24)
    ∧ ((hold 16).clock.mode = .hold .standstill .runout ∧ 16 ≤ (hold 16).clock.standstillTravel
      ∧ (hold 15).clock.standstillTravel = 15 ∧ (hold 15).clock.standstillTravel < 16
      ∧ (hold 15).marked.clock.pitchesSinceHome ≤ 24 + 1 ∧ (hold 15).clock.lag = 0)
    ∧ (∃ entry ∈ (clamped 23 5 s0).carousel.clampMap, entry ≠ none) ∧ (∀ entry ∈ s0.carousel.clampMap, entry = none) := by
  decide +kernel

theorem witness_StandstillHoldsTheLine :
    (running.stoppage.held = false ∧ running.clock.standstillTimer = some 250 ∧ running.clock.mode = .run)
    ∧ (250 ≤ (atTime 250 running).now ∧ (atTime 249 running).now < 250 ∧ s0.clock.standstillTimer = none)
    ∧ ((inMode .runout running).clock.mode = .runout ∧ (inMode .runout running).clock.standstillTimer = some 250)
    ∧ (s0.clock.mode ≠ .run ∧ s0.clock.mode ≠ .runout) ∧ running.cams[2].window = none
    ∧ (let s := windowOn 2 ⟨3, 27, 2014, 896⟩ running
       s.cams[2].window = some ⟨3, 27, 2014, 896⟩ ∧ s.carousel.bookIn 3 = none
       ∧ (clamped 3 5 s).carousel.bookIn 3 = some 5) := by decide

/-- SETUP with every check passing, the first failing and the last; and RUN. -/
theorem witness_StartChecksThenHomes :
    s0.stoppage.held = false ∧ s0.ports[1].role = .binder ∧ s0.clock.mode = .setup ∧ running.clock.mode ≠ .setup
    ∧ s0.startCheck = none
    ∧ (after (.setStation 1 2 0 0) s0).startCheck = some 1
    ∧ (clamped 0 5 (withBook { done 5 .inClamp with suspect := true } s0)).startCheck = some 8 := by decide +kernel

theorem witness_HoldAndResumeByMode :
    s0.stoppage.held = false ∧ s0.ports[1].role = .binder ∧ running.clock.mode = .run
    ∧ (inMode .runout s0).clock.mode = .runout
    ∧ (inMode (.hold .standstill .run) s0).clock.mode = .hold .standstill .run
    ∧ (inMode (.hold .commanded .run) s0).clock.mode = .hold .commanded .run
    ∧ s0.clock.mode = .setup ∧ (inMode .homing s0).clock.mode = .homing ∧ (inMode .halted s0).clock.mode = .halted
    ∧ (inMode (.hold .commanded .runout) s0).clock.mode = .hold .commanded .runout
    ∧ (∀ entry ∈ s0.carousel.clampMap, entry = none) ∧ (∃ entry ∈ (clamped 23 5 s0).carousel.clampMap, entry ≠ none)
    ∧ (∀ ret, (inMode (.hold .standstill .run) s0).clock.mode ≠ .hold .commanded ret) :=
  ⟨rfl, rfl, rfl, rfl, rfl, rfl, rfl, rfl, rfl, rfl, by decide, by decide, fun ret h => by cases h⟩

theorem witness_RunoutStopAndClearHalt :
    s0.stoppage.held = false ∧ s0.ports[1].role = .binder ∧ running.clock.mode = .run
    ∧ (∀ entry ∈ running.carousel.clampMap, entry = none)
    ∧ ¬ (∀ entry ∈ (clamped 0 5 running).carousel.clampMap, entry = none)
    ∧ (inMode (.hold .standstill .run) s0).clock.mode = .hold .standstill .run
    ∧ (inMode .runout s0).clock.mode = .runout ∧ s0.clock.mode = .setup
    ∧ running.clock.mode.started = true ∧ (inMode .homing s0).clock.mode.started = true
    ∧ (inMode .halted s0).clock.mode = .halted ∧ running.clock.mode ≠ .halted := by decide

/-- Every cause in HALTED, in SETUP and in a started mode; a book that stands in a clamp. -/
theorem witness_HaltCausesByMode :
    (inMode .halted s0).clock.mode = .halted ∧ (s0.clock.mode = .setup ∧ HaltCause.jamA ≠ .supply)
    ∧ running.clock.mode.started = true
    ∧ ((clamped 3 5 (withBook (done 5 .inClamp) running)).cutGlueWindows.findBook 5).isSome = true := by
  decide +kernel

/-- A START that takes SETUP to HOMING, and a jam that takes RUN to HALTED with a book in a clamp. -/
theorem witness_ModeChangesFollowTheTable :
    s0.clock.mode.name ≠ (after (.start 1) s0).clock.mode.name
    ∧ (let s := atTime 2 (clamped 3 5 (withBook (done 5 .inClamp) running))
       let s := { s with
         clock := { s.clock with sensors := s.clock.sensors.set 2 { s.clock.sensors[2] with pending := some 2 } }
         pending := [.debounceExpiry .jamA] }
       ∃ t, step s = .next t ∧ s.clock.mode ≠ .halted ∧ t.clock.mode = .halted ∧ t.carousel.bookIn 3 = some 5
         ∧ (t.findBook 5).isSome = true) := ⟨by decide, ⟨_, rfl, by decide +kernel⟩⟩

/-- A raw level that stays, one that returns, one that starts a pending change, one that changes at once; a pending
change due and not yet due. -/
theorem witness_SensorsAreConditioned :
    let quick : State := after (.setSensor 1 0 0 0) s0
    let rising : State := after (.sensorRawChange .block true) s0
    s0.stoppage.held = false ∧ s0.clock.sensors[0].raw = false
    ∧ (rising.clock.sensors[0].raw ≠ false ∧ false = rising.clock.sensors[0].level)
    ∧ (s0.clock.sensors[0].raw ≠ true ∧ true ≠ s0.clock.sensors[0].level ∧ 0 < s0.clock.sensors[0].debounce)
    ∧ (quick.clock.sensors[0].raw ≠ true ∧ quick.clock.sensors[0].debounce = 0
      ∧ quick.clock.sensors[0].edge = .rising)
    ∧ (rising.clock.sensors[0].pending = some 2 ∧ 2 ≤ (atTime 2 rising).now ∧ (atTime 1 rising).now < 2
      ∧ s0.clock.sensors[0].pending = none) := by decide +kernel

/-- Accepted at a distance of 64, and not at 65. -/
theorem witness_EdgesReachTheirReceivers :
    0 < s0.clock.geometry.clampCount ∧ running.clock.mode.started = true ∧ s0.clock.mode.started = false
    ∧ (inMode .homing s0).clock.mode = .homing ∧ running.clock.mode.stationsFire = true
    ∧ (atPhase 64 running).clock.homeAccepted = true ∧ (atPhase 65 running).clock.homeAccepted = false
    ∧ s0.clock.mode = .setup ∧ (inMode .halted s0).clock.mode = .halted := by decide

theorem witness_SupplyDipsAreActedOnOnce :
    let dip (b : Bool) (s : State) : State := { s with stoppage := { s.stoppage with supply := .dipping b } }
    s0.stoppage.held = false ∧ s0.stoppage.supply = .clear ∧ (dip false s0).stoppage.supply ≠ .clear
    ∧ (dip true s0).stoppage.supply ≠ .dipping false
    ∧ ((dip false s0).stoppage.supply = .dipping false ∧ s0.clock.geometry.supplyAction = .freeze)
    ∧ (inMode .halted (dip false s0)).clock.mode = .halted
    ∧ (after (.setGeometry 1 7 1) s0).clock.geometry.supplyAction = .reset := by decide

/-- Windows of 1 count and of 0; one at its end and one a count short of it; a window cut at E, and one begun past it. -/
theorem witness_WindowsBeginAndEnd :
    (0 < 0 + 1 ∧ 0 + 0 = 0 ∧ s0.stoppage.held = false)
    ∧ (windowOn 1 ⟨3, 0, 3800, 3800⟩ s0).cams[1].window = some ⟨3, 0, 3800, 3800⟩ ∧ 0 + 3800 ≤ 3800 ∧ 3799 < 0 + 3800
    ∧ (4096 ≠ 2048 ∧ 27 + 2014 ≤ 2048) ∧ (4096 ≠ 1024 ∧ 1024 < 27 + 2014 ∧ 27 < 1024)
    ∧ (4096 ≠ 1024 ∧ 1024 < 1024 + 1864 ∧ 1024 ≤ 1024) := by decide

theorem witness_OutputLevels :
    s0.stoppage.held = false ∧ s0.clock.mode = .setup ∧ (inMode .homing s0).clock.mode = .homing
    ∧ (inMode .halted s0).clock.mode = .halted ∧ running.clock.mode.stationsFire = true
    ∧ (after (.start 1) s0).stoppage.lampA.toggleAt = some 500 ∧ s0.stoppage.lampA.toggleAt = none
    ∧ (running.enterHalted .jamA).stoppage.lampB.toggleAt = some 500 ∧ s0.stoppage.lampB.toggleAt = none
    ∧ 500 ≤ (atTime 500 s0).now ∧ (atTime 499 s0).now < 500 := by
  decide +kernel

/-- Both pots, READY and UNKNOWN; a reading that keeps the state, one that changes it, one with a settle time of 0, a
disabled pot. -/
theorem witness_GlueReadingDecidesThePot :
    let p := s0.glue.spine
    ((p.low : Int) ≤ (p.high : Int) - p.hysteresis)
    ∧ s0.stoppage.held = false ∧ s0.ports[1].role = .binder ∧ 2 ≤ (2 : Byte).toNat
    ∧ ((0 : Byte).toNat = 0 ∧ (1 : Byte).toNat = 1)
    ∧ (after (.setGlue 1 1 5 0) s0).glue.side.enabled = false
    ∧ (running.glue.spine.enabled = true ∧ running.glue.spine.state.decide .band = running.glue.spine.state)
    ∧ (p.enabled = true ∧ p.state.decide (p.bandOf 1800) = .settling ∧ PotState.settling ≠ p.state)
    ∧ s0.timers.glueSettle ≠ 0 ∧ (after (.setTimers 1 2 0) s0).timers.glueSettle = 0 := by decide

/-- Each timer running, due and a millisecond before; a pot in FAULT and in another state. -/
theorem witness_PotTimersAndFault :
    let settling := after (.glueReading 1 0 1800) s0
    let cold := after (.glueReading 1 0 1000) s0
    let fault := after (.heatUpExpiry .spine) (atTime 1200000 cold)
    s0.stoppage.held = false ∧ (settling.glue.pot .spine).settle = some 8000
    ∧ (8000 ≤ (atTime 8000 settling).now ∧ (atTime 7999 settling).now < 8000)
    ∧ (cold.glue.pot .spine).heatUp = some 1200000
    ∧ (1200000 ≤ (atTime 1200000 cold).now ∧ cold.now < 1200000)
    ∧ ((settling.glue.pot .spine).stale = some 2000 ∧ (settling.glue.pot .spine).state ≠ .fault
      ∧ 2000 ≤ (atTime 2000 settling).now ∧ settling.now < 2000)
    ∧ ((fault.glue.pot .spine).stale = some 2000 ∧ (fault.glue.pot .spine).state = .fault ∧ 2000 ≤ fault.now)
    ∧ fault.ports[1].role = .binder ∧ (s0.glue.pot .side).state ≠ .fault ∧ (s0.glue.pot .side).stale = none := by
  decide +kernel

/-- Both timers due and a millisecond before; the head of the delivery queue and not; no such book. -/
theorem witness_BookTimersExpire :
    let s := withBook { done 5 .inClamp with openTime := some ⟨0, 4000⟩ } s0
    let c := withBook { done 5 .cooling with coolingDeadline := some 48842 } s0
    (s.stoppage.held = false ∧ (s.findBook 5).bind Book.openTime = some ⟨0, 4000⟩ ∧ s0.findBook 5 = none
      ∧ 4000 ≤ (atTime 4000 s).now ∧ ¬ 4000 ≤ (atTime 3999 s).now)
    ∧ ((c.findBook 5).map Book.state = some .cooling ∧ (c.findBook 5).bind Book.coolingDeadline = some 48842
      ∧ 48842 ≤ (atTime 48842 c).now ∧ ¬ 48842 ≤ (atTime 48841 c).now
      ∧ c.delivery.head? ≠ some 5 ∧ ({ c with delivery := [5] } : State).delivery.head? = some 5) := by decide +kernel

/-- No lift and four; an OPEN lift with room, at max count, and with a book that does not fit; heads READY and not. -/
theorem witness_OffersJoinStartOrLeave :
    let ready : State := { withBook (done 5 .ready) s0 with delivery := [5] }
    let one := lifts [lift 1 .opened [5]] ready
    ((done 5 .ready).job = some job417 ∧ (done 5 .ready).setPoints = some points417)
    ∧ (s0.lifting.openLift = none ∧ s0.lifting.lifts.length < 4)
    ∧ (let full := lifts [lift 1 .closed [], lift 2 .closed [], lift 3 .closed [], lift 4 .closed []] s0
       full.lifting.openLift = none ∧ 4 ≤ full.lifting.lifts.length)
    ∧ (one.lifting.openLift = some (lift 1 .opened [5]) ∧ one.fits (done 6 .ready) (lift 1 .opened [5]) = true
      ∧ 1 + 1 < one.lifting.limits.maxCount ∧ 0 < one.timers.liftWindow)
    ∧ (after (.setTimers 1 6 0) one).timers.liftWindow = 0
    ∧ (one.fits (book 6 .ready) (lift 1 .opened [5]) = false ∧ one.lifting.lifts.length < 4)
    ∧ 4 ≤ (lifts [lift 1 .closed [], lift 2 .closed [], lift 3 .closed [], lift 4 .opened [5]] ready).lifting.lifts.length
    ∧ s0.delivery = [] ∧ ready.delivery = 5 :: [] ∧ (ready.findBook 5).map Book.state = some .ready
    ∧ ((withBook (done 5 .cooling) s0).findBook 5).map Book.state = some .cooling := by decide +kernel

theorem witness_LiftsCloseAndRunOverdue :
    let s := lifts [lift 1 .dispatched [5], lift 2 .opened [6]] s0
    s.stoppage.held = false
    ∧ (s.lifting.openLift = some (lift 2 .opened [6]) ∧ (lift 2 .opened [6]).windowTimer = some 1500
      ∧ 1500 ≤ (atTime 1500 s).now ∧ ¬ 1500 ≤ (atTime 1499 s).now)
    ∧ s0.lifting.openLift = none
    ∧ (s.lifting.dispatched = some (lift 1 .dispatched [5]) ∧ (lift 1 .dispatched [5]).trimTimer = some 30000
      ∧ 30000 ≤ (atTime 30000 s).now ∧ ¬ 30000 ≤ s.now)
    ∧ s0.lifting.dispatched = none ∧ s.ports[3].role = .trim := by decide

theorem witness_TheTrimmerTakesAndCutsLifts :
    let s := lifts [lift 14 .dispatched [5], lift 15 .closed [6], lift 16 .opened [7]] s0
    let t := lifts [lift 15 .closed [6], lift 16 .opened [7]] s0
    let o := lifts [lift 16 .opened [7]] s0
    (s.stoppage.held = false ∧ s.ports[3].role = .trim ∧ s.lifting.dispatched ≠ none)
    ∧ (t.lifting.dispatched = none ∧ t.lifting.oldestClosed = some (lift 15 .closed [6])
      ∧ (∃ l ∈ t.lifting.lifts, l.number = 16) ∧ ∀ l ∈ t.lifting.lifts, l.number ≠ 17)
    ∧ (o.lifting.dispatched = none ∧ o.lifting.oldestClosed = none
      ∧ o.lifting.openLift = some (lift 16 .opened [7]))
    ∧ (s.lifting.dispatched = some (lift 14 .dispatched [5]) ∧ (lift 14 .dispatched [5]).number = 14
      ∧ (lift 14 .dispatched [5]).number ≠ 15 ∧ 2 ≤ (2 : Byte).toNat) := by decide

/-- SETUP with every clamp empty, and with the last one occupied; values below, at and above the ends of a range. -/
theorem witness_GeometryStationsAndSensorsAreWritten :
    s0.stoppage.held = false ∧ s0.ports[1].role ≠ .observer ∧ s0.clock.mode = .setup
    ∧ (∀ entry ∈ s0.carousel.clampMap, entry = none) ∧ (∃ entry ∈ (clamped 23 5 s0).carousel.clampMap, entry ≠ none)
    ∧ s0.occupancy ≤ 1 ∧ 1 < (clamped 0 5 (clamped 1 6 s0)).occupancy
    ∧ (0 : Word32).toInt = 0 ∧ (1 : Word32).toInt = 1 ∧ (BitVec.ofInt 32 (-1)).toInt < 0 ∧ 1 < (2 : Word32).toInt
    ∧ 8 ≤ (8 : Byte).toNat ∧ (1 : Byte).toNat = (0 : Fin 7).val + 1 ∧ (7 : Byte).toNat = (6 : Fin 7).val + 1
    ∧ (8 : Byte).toNat = 8 ∧ (3 : Byte).toNat = (3 : Fin 4).val ∧ (2 : Byte).toNat = EdgeSelect.both.code
    ∧ 4 ≤ (4 : Byte).toNat ∧ 3 ≤ (3 : Byte).toNat := by decide

theorem witness_CamsAndPotsAreWritten :
    s0.stoppage.held = false ∧ s0.ports[1].role ≠ .observer ∧ s0.clock.mode = .setup
    ∧ (7 : Byte).toNat = (7 : Fin 8).val ∧ ((7 : Fin 8) ≠ 2 ∧ (7 : Fin 8) ≠ 3) ∧ (2 : Byte).toNat = (2 : Fin 8).val
    ∧ (0 : Word16).toInt = 0 ∧ (1 : Word16).toInt = 1 ∧ 1 < (2 : Word16).toInt ∧ 3 ≤ (3 : Byte).toNat
    ∧ 8 ≤ (8 : Byte).toNat ∧ 2 ≤ (2 : Byte).toNat ∧ ((1 : Byte).toNat = 1 ∧ 6 ≤ (6 : Byte).toNat)
    ∧ s0.glue.side.state = .unknown ∧ (potsReady s0).glue.side.state ≠ .unknown := by decide

theorem witness_ClassesGaugeTimersAndLimitsAreWritten :
    s0.stoppage.held = false ∧ s0.ports[1].role ≠ .observer ∧ s0.clock.mode = .setup
    ∧ (7 : Byte).toNat = (7 : Fin 8).val ∧ 8 ≤ (8 : Byte).toNat ∧ (0 : Word32).toInt = 0 ∧ (1 : Word32).toInt = 1
    ∧ (BitVec.ofInt 32 (-1)).toInt < 0 ∧ 9 ≤ (9 : Byte).toNat ∧ 4 ≤ (4 : Byte).toNat
    ∧ (lifts [lift 1 .opened [5]] s0).lifting.lifts ≠ [] ∧ s0.lifting.lifts = [] ∧ 3 ≤ (3 : Byte).toNat := by decide

/-- A line in RUN with a count waiting, a book cooling, an OPEN and a DISPATCHED lift, and one reject. -/
def busy : State :=
  let s := withSecond (book 6 .inLift) (withBook (done 5 .cooling) running)
  { lifts [lift 3 .dispatched [9], lift 4 .opened [6]] s with
    delivery := [5], pending := [.forwardCount]
    books := { s.books with rejects := [⟨2, 0, .unannounced, .release⟩], overrun := true } }

theorem witness_StepKeepsLineModeSound : busy.LineModeSound ∧ ∃ t, step busy = .next t :=
  ⟨⟨by decide, by decide, by decide, by decide, by decide +kernel, by decide, by decide⟩, ⟨_, rfl⟩⟩

theorem witness_StepKeepsPositionSound : busy.PositionSound ∧ ∃ t, step busy = .next t :=
  ⟨⟨by unfold Geometry.inRange; decide, by decide, by decide, by decide, by decide⟩, ⟨_, rfl⟩⟩

theorem witness_StepKeepsTablesAndPotsSound : busy.TablesSound ∧ busy.PotsSound ∧ ∃ t, step busy = .next t :=
  ⟨⟨by decide, by decide, by decide, by decide, by decide, by decide +kernel, by decide⟩,
    ⟨⟨by decide, by decide, by decide, by decide, by decide⟩, ⟨by decide, by decide, by decide, by decide, by decide⟩,
      by decide⟩, ⟨_, rfl⟩⟩

theorem witness_StepKeepsSerialsSound : busy.SerialsSound ∧ ∃ t, step busy = .next t :=
  ⟨⟨by decide +kernel, by decide +kernel⟩, ⟨_, rfl⟩⟩

theorem witness_StepKeepsOccupancySound : busy.OccupancySound ∧ ∃ t, step busy = .next t :=
  ⟨⟨by decide, ⟨by decide, by decide, by decide, by decide, by decide, by decide, by decide⟩⟩, ⟨_, rfl⟩⟩

end Sys2Proof.Tests
end

section
/-!
PROOF. RUNOUT, STOP and CLEAR HALT (R22, R23, R25): what each command leaves behind in each line mode, and O39 from
these.
-/

namespace Sys2Proof.Machine

/-! ### The facts the three commands turn on -/

/-- R22: the test for an empty carousel is a test of every entry. -/
theorem Carousel.allEmpty_iff {c : Carousel} : c.allEmpty = true ↔ ∀ entry ∈ c.clampMap, entry = none := by
  simp [Carousel.allEmpty]

theorem Carousel.allEmpty_eq_false_iff {c : Carousel} :
    c.allEmpty = false ↔ ¬ ∀ entry ∈ c.clampMap, entry = none := by
  rw [← Carousel.allEmpty_iff, Bool.not_eq_true]

/-- R23 and R24: the modes that are not started are SETUP and HALTED. -/
theorem LineMode.started_eq_false_iff {m : LineMode} : m.started = false ↔ m = .setup ∨ m = .halted := by
  cases m <;> simp [LineMode.started, LineMode.stationsFire, LineMode.name]

/-! ### Each command from BINDER, by line mode -/

section FromBinder

variable {p : PortId} {s : State} (held : s.stoppage.held = false) (binder : s.ports[p].role = .binder)
include held binder

/-- R195, R196: a command that BINDER may give leaves the state and the reply its body gives. -/
theorem binderCommand_of_body {t : State} {code : Byte} {subject : Nat} {body : State → State × Reply} {r : Reply}
    (hb : body s = (t, r)) :
    (.next (s.command p code Rights.binder subject body) : Answer) = .next (t.finish p code r) := by
  rw [State.command_taken held (Rights.binder_iff.2 binder), hb]

/-- R22: RUNOUT in RUN with every clamp empty is the entry of SETUP. -/
theorem exec_runout_run_empty (mode : s.clock.mode = .run) (empty : s.carousel.allEmpty = true) :
    exec (.runout p) s = .next (s.enterSetup.finish p 0x33 (.ok 0)) :=
  binderCommand_of_body held binder (by simp only [mode, empty, if_true, modeTaken])

/-- R22: RUNOUT in RUN with a clamp occupied changes the mode and leaves the standstill timer running. -/
theorem exec_runout_run_occupied (mode : s.clock.mode = .run) (occupied : s.carousel.allEmpty = false) :
    exec (.runout p) s = .next ((s.enterMode .runout).finish p 0x33 (.ok 0)) :=
  binderCommand_of_body held binder
    (by simp only [mode, occupied, Bool.false_eq_true, if_false, modeTaken])

/-- R22 and R26: RUNOUT in HOLD sets the return mode, which is no change of line mode. -/
theorem exec_runout_hold {kind : HoldKind} {ret : ReturnMode} (mode : s.clock.mode = .hold kind ret) :
    exec (.runout p) s
      = .next (({ s with clock := { s.clock with mode := .hold kind .runout } } : State).finish p 0x33 (.ok 0)) :=
  binderCommand_of_body held binder (by simp only [mode, modeTaken])

theorem exec_runout_runout (mode : s.clock.mode = .runout) :
    exec (.runout p) s = .next (s.finish p 0x33 (.ok 0)) :=
  binderCommand_of_body held binder (by simp only [mode, modeTaken])

theorem exec_runout_refused (mode : s.clock.mode = .setup ∨ s.clock.mode = .homing ∨ s.clock.mode = .halted) :
    exec (.runout p) s = .next (s.finish p 0x33 (.refused .refusedMode 0)) :=
  binderCommand_of_body held binder
    (by obtain mode | mode | mode := mode <;> simp only [mode, refuse])

/-- R23: STOP in a started mode with every clamp empty is the entry of SETUP. -/
theorem exec_stop_taken (started : s.clock.mode.started = true) (empty : s.carousel.allEmpty = true) :
    exec (.stop p) s = .next (s.enterSetup.finish p 0x34 (.ok 0)) :=
  binderCommand_of_body held binder
    (by simp only [started, empty, Bool.and_self, if_true, modeTaken])

theorem exec_stop_refused (h : s.clock.mode.started = false ∨ s.carousel.allEmpty = false) :
    exec (.stop p) s = .next (s.finish p 0x34 (.refused .refusedMode 0)) :=
  binderCommand_of_body held binder
    (by simp only [Bool.and_eq_false_iff.2 h, Bool.false_eq_true, if_false, refuse])

/-- R25: CLEAR HALT in HALTED clears the halt and the lag, then enters SETUP. -/
theorem exec_clearHalt_halted (mode : s.clock.mode = .halted) :
    exec (.clearHalt p) s = .next ((({ s with
      clock := { s.clock with lag := 0 }
      stoppage := { s.stoppage with haltCause := none, furtherCause := false } } : State).enterMode .setup).finish p
        0x35 (.ok 0)) :=
  binderCommand_of_body held binder (by simp only [mode, if_true, modeTaken])

theorem exec_clearHalt_refused (mode : s.clock.mode ≠ .halted) :
    exec (.clearHalt p) s = .next (s.finish p 0x35 (.refused .refusedMode 0)) :=
  binderCommand_of_body held binder (by simp only [mode, if_false, refuse])

end FromBinder

/-- Settles O39, command by command and mode by mode: the entry of SETUP and of RUNOUT that the lemmas name are the
states O39 writes out, and its clauses on the clamps and on the modes are the two tests of the commands. -/
theorem runoutStopAndClearHalt : Obligations.RunoutStopAndClearHalt := by
  intro p s held binder empty toSetup
  have stop_refusal (h : s.clock.mode = .setup ∨ s.clock.mode = .halted ∨ ¬ empty) :
      s.clock.mode.started = false ∨ s.carousel.allEmpty = false := by
    rwa [LineMode.started_eq_false_iff, Carousel.allEmpty_eq_false_iff, or_assoc]
  exact ⟨fun mode he => exec_runout_run_empty held binder mode (Carousel.allEmpty_iff.2 he),
    fun mode he => exec_runout_run_occupied held binder mode (Carousel.allEmpty_eq_false_iff.2 he),
    fun _ _ mode => exec_runout_hold held binder mode,
    fun mode => exec_runout_runout held binder mode,
    fun mode => exec_runout_refused held binder mode,
    fun started he => exec_stop_taken held binder started (Carousel.allEmpty_iff.2 he),
    fun h => exec_stop_refused held binder (stop_refusal h),
    fun mode => exec_clearHalt_halted held binder mode,
    fun mode => exec_clearHalt_refused held binder mode⟩

end Sys2Proof.Machine
end

section
/-!
PROOF. The delivery queue and the Lift Builder (R78, R79, R150, R151, R162, R163, R165): what compatible means, the
decision on an offered head, the run of offers, and O50 from these.
-/

namespace Sys2Proof.Machine

/-! ### Compatible books (R78, R79) -/

/-- R78: the larger less the smaller is the distance of the two. -/
theorem differBy_le_iff {a b t : Nat} : differBy a b ≤ t ↔ |(a : Int) - b| ≤ t := by
  rw [abs_le]
  unfold differBy
  omega

theorem compatible_iff {tol : Nat} {r b : Book} {rj bj : Job} {rs bs : SetPoints} (hrj : r.job = some rj)
    (hbj : b.job = some bj) (hrs : r.setPoints = some rs) (hbs : b.setPoints = some bs) :
    compatible tol r b = true ↔ rj.height = bj.height ∧ rj.width = bj.width
      ∧ |(rs.headTrim : Int) - bs.headTrim| ≤ tol ∧ |(rs.footTrim : Int) - bs.footTrim| ≤ tol
      ∧ |(rs.foreTrim : Int) - bs.foreTrim| ≤ tol := by
  simp only [compatible, hrj, hbj, hrs, hbs, Bool.and_eq_true, beq_iff_eq, decide_eq_true_eq, differBy_le_iff,
    and_assoc]

/-- R79: the spine of a book with set-points is theirs. -/
theorem Book.spine_of_setPoints {b : Book} {sp : SetPoints} (h : b.setPoints = some sp) : b.spine = sp.spine := by
  simp [Book.spine, h]

/-! ### The decision on an offered head (R162, R163) -/

section Offer

variable {s : State} {b : Book} {l : Lift}

/-- R162: the three tests of a join: the lift's first book, its count, its height. -/
theorem State.fits_iff : s.fits b l = true ↔
    (∃ n r, l.books.head? = some n ∧ s.findBook n = some r
      ∧ compatible s.lifting.limits.tolerance r b = true)
    ∧ l.books.length < s.lifting.limits.maxCount ∧ l.height + b.spine ≤ s.lifting.limits.maxHeight := by
  simp only [State.fits, Bool.and_eq_true, decide_eq_true_eq, and_assoc, Option.any_eq_true, Option.bind_eq_some_iff]
  refine and_congr_left fun _ => ⟨?_, ?_⟩
  · rintro ⟨r, ⟨n, hn, hr⟩, hc⟩
    exact ⟨n, r, hn, hr, hc⟩
  · rintro ⟨n, r, hn, hr, hc⟩
    exact ⟨r, ⟨n, hn, hr⟩, hc⟩

/-- R162: a join as it stands before the lift may close. -/
def State.joined (b : Book) (l : Lift) (s : State) : State :=
  (s.takeHead b.serial l.number).mapLift l.number fun m =>
    { m with books := m.books ++ [b.serial], height := m.height + b.spine
             windowTimer := some (s.now + s.timers.liftWindow) }

/-- R162: a join below max count, with a window, leaves the lift OPEN. -/
theorem State.joinLift_of_open (hcount : l.books.length + 1 < s.lifting.limits.maxCount)
    (hwindow : 0 < s.timers.liftWindow) : s.joinLift b l = s.joined b l :=
  if_neg (not_or.2 ⟨Nat.not_le.2 hcount, hwindow.ne'⟩)

/-- R162 and R165: a join up to max count, or with a lift window of 0, closes the lift. -/
theorem State.joinLift_of_closing
    (h : s.lifting.limits.maxCount ≤ l.books.length + 1 ∨ s.timers.liftWindow = 0) :
    s.joinLift b l = (s.joined b l).closeLift l.number :=
  if_pos h

@[simp] theorem State.closeLift_lifts_length {n : Nat} :
    (s.closeLift n).lifting.lifts.length = s.lifting.lifts.length :=
  List.length_map ..

theorem State.offer_of_no_lift (hopen : s.lifting.openLift = none)
    (room : s.lifting.lifts.length < Config.liftCapacity) : s.offer b = (s.newLift b, true) := by
  simp only [State.offer, hopen, room, if_true]

theorem State.offer_of_full_list (hopen : s.lifting.openLift = none)
    (full : Config.liftCapacity ≤ s.lifting.lifts.length) : s.offer b = (s, false) := by
  simp only [State.offer, hopen, Nat.not_lt.2 full, if_false]

theorem State.offer_of_fits (hopen : s.lifting.openLift = some l) (hfits : s.fits b l = true) :
    s.offer b = (s.joinLift b l, true) := by
  simp only [State.offer, hopen, hfits, if_true]

/-- R162: a book that does not fit closes the OPEN lift and is offered a list with no OPEN lift. -/
theorem State.offer_of_not_fits (hopen : s.lifting.openLift = some l) (hfits : ¬ s.fits b l = true) :
    s.offer b = if s.lifting.lifts.length < Config.liftCapacity then ((s.closeLift l.number).newLift b, true)
      else (s.closeLift l.number, false) := by
  simp only [State.offer, hopen, hfits, Bool.false_eq_true, if_false, State.closeLift_lifts_length]

/-! ### The head leaves the queue with the lift it enters (R151) -/

theorem State.joinLift_delivery : (s.joinLift b l).delivery = s.delivery.tail := by
  unfold State.joinLift
  dsimp only
  split <;> rfl

theorem State.newLift_delivery : (s.newLift b).delivery = s.delivery.tail := by
  unfold State.newLift
  dsimp only
  split <;> rfl

theorem State.offer_taken_delivery (taken : (s.offer b).2 = true) : (s.offer b).1.delivery = s.delivery.tail := by
  cases hopen : s.lifting.openLift with
  | none =>
    by_cases room : s.lifting.lifts.length < Config.liftCapacity
    · rw [State.offer_of_no_lift hopen room, State.newLift_delivery]
    · simp [State.offer_of_full_list hopen (Nat.not_lt.1 room)] at taken
  | some l =>
    by_cases hfits : s.fits b l = true
    · rw [State.offer_of_fits hopen hfits, State.joinLift_delivery]
    · rw [State.offer_of_not_fits hopen hfits] at taken ⊢
      by_cases room : s.lifting.lifts.length < Config.liftCapacity
      · rw [if_pos room, State.newLift_delivery]
        simp
      · simp [room] at taken

end Offer

/-! ### Heads offered one after another (R150) -/

section Heads

variable {s : State} {n : Nat} {rest : List Nat}

/-- R150: the queue offers nothing where it has no READY head. -/
theorem State.offerDelivery_of_no_readyHead (h : s.readyHead = none) : s.offerDelivery = s := by
  rw [State.offerDelivery]
  cases s.delivery.length with
  | zero => rfl
  | succ fuel => simp only [State.offerHeads, h]

theorem State.readyHead_of_empty (h : s.delivery = []) : s.readyHead = none := by
  simp [State.readyHead, h]

theorem State.readyHead_eq_some_iff (h : s.delivery = n :: rest) {b : Book} :
    s.readyHead = some b ↔ s.findBook n = some b ∧ b.state = .ready := by
  simp [State.readyHead, h, Option.filter_eq_some_iff]

theorem State.readyHead_eq_none_iff (h : s.delivery = n :: rest) :
    s.readyHead = none ↔ ∀ b, s.findBook n = some b → b.state ≠ .ready := by
  simp only [Option.eq_none_iff_forall_ne_some, ne_eq, State.readyHead_eq_some_iff h, not_and]

/-- R150 and R151: a READY head is offered. Once it is taken, the fuel left is the length of the rest of the queue, so
the run goes on as an offer of that queue. -/
theorem State.offerDelivery_of_ready (h : s.delivery = n :: rest) {b : Book} (found : s.findBook n = some b)
    (ready : b.state = .ready) :
    s.offerDelivery = if (s.offer b).2 = true then (s.offer b).1.offerDelivery else (s.offer b).1 := by
  have head : s.readyHead = some b := (State.readyHead_eq_some_iff h).2 ⟨found, ready⟩
  have fuel (taken : (s.offer b).2 = true) : (s.offer b).1.delivery.length = rest.length := by
    rw [State.offer_taken_delivery taken, h, List.tail_cons]
  rw [State.offerDelivery, h, List.length_cons]
  simp only [State.offerHeads, head]
  split
  next taken => rw [State.offerDelivery, fuel taken]
  next => rfl

end Heads

/-- Settles O50: the three parts are the lemmas on compatible books, on the decision and on the run of offers. The
lifts that O50 writes out are `State.joined` and `State.newLift`, with the spine of the book's set-points; the clauses
of a join and of a closing are parted by max count and the lift window. -/
theorem offersJoinStartOrLeave : Obligations.OffersJoinStartOrLeave := by
  refine ⟨fun tol r b rj bj rs bs => compatible_iff, ?decision, fun s =>
    ⟨fun h => State.offerDelivery_of_no_readyHead (State.readyHead_of_empty h), fun n rest h =>
      ⟨fun notReady => State.offerDelivery_of_no_readyHead ((State.readyHead_eq_none_iff h).2 notReady),
        fun b => State.offerDelivery_of_ready h⟩⟩⟩
  intro s b sp hsp
  rw [← Book.spine_of_setPoints hsp]
  refine ⟨State.offer_of_no_lift, State.offer_of_full_list, fun l hopen => ⟨?joins, ?joinsAndCloses, ?starts, ?stays⟩⟩
  case joins =>
    intro hfits hcount hwindow
    exact (State.offer_of_fits hopen (State.fits_iff.2 hfits)).trans
      (congrArg (·, true) (State.joinLift_of_open hcount hwindow))
  case joinsAndCloses =>
    intro hfits hclosing
    exact (State.offer_of_fits hopen (State.fits_iff.2 hfits)).trans
      (congrArg (·, true) (State.joinLift_of_closing (hclosing.imp_left Eq.ge)))
  case starts =>
    intro hfits room
    exact (State.offer_of_not_fits hopen (mt State.fits_iff.1 hfits)).trans (if_pos room)
  case stays =>
    intro hfits full
    exact (State.offer_of_not_fits hopen (mt State.fits_iff.1 hfits)).trans (if_neg (Nat.not_lt.2 full))

end Sys2Proof.Machine
end

section
/-!
PROOF. Sensor edges (R15, R17, R84, R177): what a BLOCK edge and a HOME edge do in each line mode, when a HOME edge is
accepted, and O43 from these.
-/

namespace Sys2Proof.Machine

/-! ### The line modes an edge tells apart -/

/-- R9: the modes in which stations fire, each in its own form. -/
theorem LineMode.stationsFire_iff {m : LineMode} :
    m.stationsFire = true ↔ m = .run ∨ (∃ kind ret, m = .hold kind ret) ∨ m = .runout := by
  cases m <;> simp [LineMode.stationsFire, LineMode.name]

theorem LineMode.started_of_stationsFire {m : LineMode} (fires : m.stationsFire = true) : m.started = true := by
  rw [LineMode.started, fires, Bool.or_true]

/-- R24: a halt cause halts a started line. -/
theorem State.takeHaltCause_of_started {s : State} {cause : HaltCause} (started : s.clock.mode.started = true) :
    s.takeHaltCause cause = s.enterHalted cause := by
  unfold State.takeHaltCause
  cases mode : s.clock.mode with
  | setup | halted => rw [mode] at started; contradiction
  | homing | run | hold kind ret | runout => rfl

/-! ### When a HOME edge is accepted (R17) -/

section HomeAccepted

variable {c : PitchClock}

theorem PitchClock.homeAccepted_iff_offset :
    c.homeAccepted = true ↔ |c.homeOffset.1| ≤ (c.geometry.homeTolerance : Int) ∧ c.homeOffset.2 = 0 := by
  simp only [PitchClock.homeAccepted, Bool.and_eq_true, decide_eq_true_eq, beq_iff_eq, ← Int.natCast_natAbs,
    Nat.cast_le]

/-- A clamp index reduced modulo a positive clamp count is at clamp 0 exactly where the remainder is 0. -/
theorem toNat_emod_eq_zero_iff {k : Int} {n : Nat} (hn : 0 < n) : (k % n).toNat = 0 ↔ k % n = 0 := by
  have nonneg : 0 ≤ k % n := Int.emod_nonneg k (Int.natCast_ne_zero.2 hn.ne')
  omega

/-- R17: past half a pitch the edge belongs to the next home, at half a pitch before it or earlier to the last one,
and else to the one at hand. -/
theorem PitchClock.homeAccepted_iff (hn : 0 < c.geometry.clampCount) :
    let g := c.geometry
    let d : Int := (c.phase : Int) - g.homePhase
    let e : Int := g.pitchCounts
    let k : Int := c.clampIndex
    c.homeAccepted = true ↔
      if e < 2 * d then |d - e| ≤ g.homeTolerance ∧ (k + 1) % g.clampCount = 0
      else if 2 * d ≤ -e then |d + e| ≤ g.homeTolerance ∧ (k - 1) % g.clampCount = 0
      else |d| ≤ g.homeTolerance ∧ k = 0 := by
  intro g d e k
  rw [PitchClock.homeAccepted_iff_offset]
  by_cases ahead : e < 2 * d
  · have offset : c.homeOffset = (d - e, ((k + 1) % g.clampCount).toNat) := if_pos ahead
    rw [offset, if_pos ahead, toNat_emod_eq_zero_iff hn]
  by_cases behind : 2 * d ≤ -e
  · have offset : c.homeOffset = (d + e, ((k - 1) % g.clampCount).toNat) := (if_neg ahead).trans (if_pos behind)
    rw [offset, if_neg ahead, if_pos behind, toNat_emod_eq_zero_iff hn]
  · have offset : c.homeOffset = (d, c.clampIndex) := (if_neg ahead).trans (if_neg behind)
    rw [offset, if_neg ahead, if_neg behind, Int.natCast_eq_zero]

end HomeAccepted

/-! ### The edges by line mode -/

section Edges

variable {s : State}

/-- R84: the latch is set whatever it was, so an edge taken while it is set counts no second block. -/
theorem State.sensorEdge_block_of_started (started : s.clock.mode.started = true) :
    s.sensorEdge .block = { s with carousel := { s.carousel with presence := true } } :=
  if_pos started

theorem State.sensorEdge_block_of_not_started (notStarted : s.clock.mode.started = false) :
    s.sensorEdge .block = s :=
  if_neg (Bool.eq_false_iff.1 notStarted)

theorem State.sensorEdge_home_homing (mode : s.clock.mode = .homing) : s.sensorEdge .home = s.takeHome := by
  simp only [State.sensorEdge, State.homeEdge, mode]

/-- R17: in RUN, HOLD and RUNOUT alike a HOME edge turns on its acceptance alone. -/
theorem State.sensorEdge_home_of_stationsFire (fires : s.clock.mode.stationsFire = true) :
    s.sensorEdge .home =
      if s.clock.homeAccepted = true then { s with clock := { s.clock with pitchesSinceHome := 0 } }
      else s.enterHalted .homeMismatch := by
  rw [← State.takeHaltCause_of_started (LineMode.started_of_stationsFire fires)]
  obtain mode | ⟨kind, ret, mode⟩ | mode := LineMode.stationsFire_iff.1 fires <;>
    simp only [State.sensorEdge, State.homeEdge, mode]

theorem State.sensorEdge_home_discarded (mode : s.clock.mode = .setup ∨ s.clock.mode = .halted) :
    s.sensorEdge .home = s := by
  obtain mode | mode := mode <;> simp only [State.sensorEdge, State.homeEdge, mode]

end Edges

/-- Settles O43, sensor by sensor and mode by mode: its condition on the phase and the clamp index is the acceptance of
`PitchClock.homeAccepted_iff`, and the state it writes out for HOMING is the one `State.takeHome` leaves. -/
theorem edgesReachTheirReceivers : Obligations.EdgesReachTheirReceivers := by
  intro s hn g d e k accepted
  have accepted_iff : s.clock.homeAccepted = true ↔ accepted := PitchClock.homeAccepted_iff hn
  exact ⟨State.sensorEdge_block_of_started,
    State.sensorEdge_block_of_not_started,
    State.sensorEdge_home_homing,
    fun fires near => (State.sensorEdge_home_of_stationsFire fires).trans (if_pos (accepted_iff.2 near)),
    fun fires far => (State.sensorEdge_home_of_stationsFire fires).trans (if_neg (mt accepted_iff.1 far)),
    State.sensorEdge_home_discarded,
    rfl, rfl⟩

end Sys2Proof.Machine
end

section
/-!
PROOF. The acts of which every command is made. Each act changes one block of the part, or the few blocks that one rule
changes together, and carries what the command has found out by then. `exec_acts`, in the next section, takes every
command apart into acts; what every step keeps is then shown act by act.
-/

namespace Sys2Proof.Machine

/-- The parts of a command in their order: what comes before a book can be taken in, the intake, and the part in which
books may leave. -/
inductive Phase where
  | count | intake | outlet

/-! ### Books -/

/-- The samples of a book are within R29 and R35. -/
def Book.SamplesBounded (b : Book) : Prop := b.samples.length ≤ 8 ∧ ∀ x ∈ b.samples, x ≤ 99999

/-- What a record may become under its serial: R43 keeps its cause, and R35 the bounds of its samples. -/
structure Book.Becomes (b b' : Book) : Prop where
  serial : b'.serial = b.serial
  cause : ∀ c, b.cause = some c → b'.cause = some c
  samples : b.SamplesBounded → b'.SamplesBounded

/-- What happens to the Book Table. A book is placed in the intake alone, and a slot freed in the outlet alone. -/
inductive BookAct (ph : Phase) (t : BookTable) : BookTable → Prop
  | records (f : Book → Book) (becomes : ∀ b : Book, b.Becomes (f b)) :
    BookAct ph t { t with slots := t.slots.map fun slot => slot.map f }
  | place (b : Book) (intake : ph = .intake) (serial : b.serial = t.nextSerial) (samples : b.samples = []) :
    BookAct ph t { t with slots := placeBook t.slots b, lastSerial := t.nextSerial }
  | free (n : Nat) (outlet : ph = .outlet) :
    BookAct ph t { t with slots := t.slots.map fun slot => slot.filter fun b => b.serial != n }
  | queue (q : List Nat) (timer : Option Nat) (short : q.length ≤ t.announceQ.length ∨ q.length ≤ 8) :
    BookAct ph t { t with announceQ := q, sealTimer := timer }
  | append (e : RejectEntry) :
    BookAct ph t { t with
      rejects := (if Config.rejectCapacity ≤ t.rejects.length then t.rejects.tail else t.rejects) ++ [e]
      overrun := t.overrun || decide (Config.rejectCapacity ≤ t.rejects.length)
      rejectsGone := t.rejectsGone + (if Config.rejectCapacity ≤ t.rejects.length then 1 else 0) }
  | take : BookAct ph t { t with
      rejects := t.rejects.tail
      overrun := if t.rejects.tail.isEmpty then false else t.overrun
      rejectsGone := t.rejectsGone + 1 }
  | counters (admitted done rejected withdrawn : BitVec 32) :
    BookAct ph t { t with admitted := admitted, done := done, rejected := rejected, withdrawn := withdrawn }

/-! ### Position, cams, delivery -/

/-- What happens to the Pitch Clock within a line mode. The high-water mark moves in the count alone. -/
inductive ClockAct (i : Instr) (ph : Phase) (c : PitchClock) : PitchClock → Prop
  | lag (n : Nat)
      (bound : c.mode.started = true → c.lag ≤ c.geometry.reverseTolerance → n ≤ c.geometry.reverseTolerance) :
    ClockAct i ph c { c with lag := n }
  | lagDown : ClockAct i ph c { c with lag := c.lag - 1 }
  | advance (count : ph = .count) : ClockAct i ph c c.advance
  | marks (fired : Vector Bool 7) (homing since standstill : Nat) (sensors : Vector Conditioner 4) :
    ClockAct i ph c { c with
      fired := fired, homingTravel := homing, pitchesSinceHome := since, standstillTravel := standstill
      sensors := sensors }
  | stations (places : Vector StationPlace 7) (write : i.isConfigWrite = true) :
    ClockAct i ph c { c with stations := places }
  | restart (due : Nat) (runs : c.mode = .run ∨ c.mode = .runout) :
    ClockAct i ph c { c with standstillTimer := some due }
  | holdKind (kind kind' : HoldKind) (ret ret' : ReturnMode) (mode : c.mode = .hold kind' ret') :
    ClockAct i ph c { c with mode := .hold kind ret }

/-- What happens to the cam channels in a line mode: windows begin only where stations fire (R141), and a channel is
written only in SETUP (R134, R144). -/
inductive CamAct (mode : LineMode) (k : Vector CamChannel 8) : Vector CamChannel 8 → Prop
  | advance : CamAct mode k (k.map CamChannel.advance)
  | window (c : Fin 8) (w : Option CamWindow) (fires : w = none ∨ mode.stationsFire = true) :
    CamAct mode k (k.set c { k[c] with window := w })
  | write (c : Fin 8) (x : CamChannel) (setup : mode = .setup) (window : x.window = k[c].window) :
    CamAct mode k (k.set c x)

/-- R166: the lifts, with those of a number closed. -/
def closeIn (n : Nat) (lifts : List Lift) : List Lift :=
  lifts.map fun m => if m.number = n then { m with state := .closed, windowTimer := none } else m

/-- What happens to the delivery queue and the lift list together. A new lift starts where no lift is OPEN, or where the
OPEN one closes. -/
inductive LiftAct (d : List Nat) (l : LiftBuilder) : List Nat → LiftBuilder → Prop
  | join (o : Lift) (n height due : Nat) (isOpen : l.openLift = some o) (head : d ≠ [])
      (room : o.books.length < l.limits.maxCount) :
    LiftAct d l d.tail { l with lifts := l.lifts.map fun m => if m.number = o.number then { m with
      books := m.books ++ [n], height := m.height + height, windowTimer := some due } else m }
  | start (n height due : Nat) (kept : List Lift)
      (noOpen : (l.openLift = none ∧ kept = l.lifts) ∨ ∃ o, l.openLift = some o ∧ kept = closeIn o.number l.lifts)
      (head : d ≠ []) (room : l.lifts.length < 4) :
    LiftAct d l d.tail { l with
      lifts := kept ++ [{ number := l.nextNumber, state := .opened, books := [n], height := height, overdue := false,
                             windowTimer := some due, trimTimer := none }]
      lastNumber := l.nextNumber }
  | close (o : Lift) (mem : o ∈ l.lifts) (isOpen : o.state = .opened) :
    LiftAct d l d { l with lifts := closeIn o.number l.lifts }
  | dispatch (c : Lift) (due : Nat) (none_ : l.dispatched = none) (oldest : l.oldestClosed = some c) :
    LiftAct d l d { l with lifts := l.lifts.map fun m =>
      if m.number = c.number then { m with state := .dispatched, overdue := false, trimTimer := some due } else m }
  | overdue (n : Nat) :
    LiftAct d l d { l with lifts := l.lifts.map fun m =>
      if m.number = n then { m with overdue := true, trimTimer := none } else m }
  | remove (n : Nat) : LiftAct d l d { l with lifts := l.lifts.filter fun m => m.number != n }
  | limits (x : LiftLimits) (empty : l.lifts = []) (count : 1 ≤ l.limits.maxCount → 1 ≤ x.maxCount) :
    LiftAct d l d { l with limits := x }

/-! ### Line mode -/

/-- R19: the changes of line mode, each with what it does beside the mode. -/
inductive ModeAct (s : State) : State → Prop
  | homing (mode : s.clock.mode = .setup) (checked : s.startCheck = none) : ModeAct s s.beginHoming
  | home (mode : s.clock.mode = .homing) : ModeAct s s.takeHome
  | hold (kind : HoldKind) (ret : ReturnMode) (mode : s.clock.mode = .run ∨ s.clock.mode = .runout) :
    ModeAct s (({ s with clock := { s.clock with standstillTimer := none, standstillTravel := 0 } } : State).enterMode
      (.hold kind ret))
  | back (kind : HoldKind) (ret : ReturnMode) (mode : s.clock.mode = .hold kind ret) :
    ModeAct s (s.returnFromHold ret)
  | runout (mode : s.clock.mode = .run) : ModeAct s (s.enterMode .runout)
  | setup (started : s.clock.mode.started = true) : ModeAct s s.enterSetup
  | cleared (mode : s.clock.mode = .halted) :
    ModeAct s (({ s with
      clock := { s.clock with lag := 0 }
      stoppage := { s.stoppage with haltCause := none, furtherCause := false } } : State).enterMode .setup)
  | halted (cause : HaltCause) (mode : s.clock.mode ≠ .halted) :
    ModeAct s (({ s.endWindows.releaseForces.stopStandstill with
      carousel := { s.carousel with presence := false }
      stoppage := { s.stoppage with haltCause := some cause, furtherCause := false } } : State).enterMode .halted)

/-! ### Acts -/

/-- What can happen within a command, in one of its parts. -/
inductive Act (i : Instr) (ph : Phase) (s : State) : State → Prop
  | ports (ps : Vector Port 4) (roles : ∀ p : PortId, ps[p].role = s.ports[p].role)
      (latches : (∃ p mask, i = .clearAttention p mask) ∨
        ∀ p : PortId, s.ports[p].latches.getLsbD 7 = true → ps[p].latches.getLsbD 7 = true) :
    Act i ph s { s with ports := ps }
  | books (t : BookTable) (act : BookAct ph s.books t) : Act i ph s { s with books := t }
  | clock (c : PitchClock) (act : ClockAct i ph s.clock c) : Act i ph s { s with clock := c }
  | cams (k : Vector CamChannel 8) (act : CamAct s.clock.mode s.cams k) : Act i ph s { s with cams := k }
  | aside (due : List DueEntry) (setpoints : SetPointUnit) (timers : Timers) :
    Act i ph s { s with due := due, setpoints := setpoints, timers := timers }
  | carousel (presence : Bool) (locks : Vector Bool 32)
      (latch : presence = true → s.carousel.presence = true ∨ s.clock.mode.started = true) :
    Act i ph s { s with carousel := { s.carousel with presence := presence, locks := locks } }
  | glue (g : GlueSupervisor) (sound : s.PotsSound → ({ s with glue := g } : State).PotsSound) :
    Act i ph s { s with glue := g }
  | lifting (d : List Nat) (l : LiftBuilder) (act : LiftAct s.delivery s.lifting d l) :
    Act i ph s { s with delivery := d, lifting := l }
  | supply (m : SupplyMonitor) : Act i ph s (s.setSupply m)
  | lamps (a b : Lamp) (toggle : ∃ lamp, i = .lampFlashToggle lamp) :
    Act i ph s { s with stoppage := { s.stoppage with lampA := a, lampB := b } }
  | further (mode : s.clock.mode = .halted) :
    Act i ph s { s with stoppage := { s.stoppage with furtherCause := true } }
  | reset (cause : ResetCause) : Act i ph s (s.beginReset cause)
  | geometry (f : Geometry → Geometry) (mode : s.clock.mode = .setup) (write : i.isConfigWrite = true)
      (range : ∀ g : Geometry, g.inRange → (f g).inRange)
      (kept : ∀ g, (f g).clampCount = g.clampCount ∧ (f g).pitchCounts = g.pitchCounts)
      (capacity : s.occupancy ≤ s.clock.geometry.capacity → s.occupancy ≤ (f s.clock.geometry).capacity) :
    Act i ph s (s.setGeo f)
  | clampCount (n : Nat) (mode : s.clock.mode = .setup) (write : i.isConfigWrite = true) (lo : 8 ≤ n) (hi : n ≤ 32)
      (empty : s.carousel.allEmpty = true) :
    Act i ph s (s.writeClampCount n)
  | pitchCounts (e : Nat) (mode : s.clock.mode = .setup) (write : i.isConfigWrite = true) (lo : 1024 ≤ e)
      (hi : e ≤ 16384) :
    Act i ph s (s.writePitchCounts e)
  | mode (t : State) (act : ModeAct s t) (move : modeMove i s.clock.mode.name t.clock.mode.name = true) :
    Act i ph s t
  | fill (clamp n : Nat) (count : i = .forwardCount) (intake : ph = .intake) (mode : s.clock.mode = .run)
      (room : s.occupancy < s.clock.geometry.capacity) :
    Act i ph s { s with
      carousel := { s.carousel with clampMap := s.carousel.clampMap.set clamp (some n), presence := false } }
  | empty (clamp : Nat) :
    Act i ph s { s with carousel := { s.carousel with clampMap := s.carousel.clampMap.set clamp none } }
  | deliver (clamp n m : Nat) (full : s.carousel.bookIn clamp = some m) :
    Act i ph s { s with
      delivery := s.delivery ++ [n]
      carousel := { s.carousel with clampMap := s.carousel.clampMap.set clamp none } }

/-- A run of acts within one part of a command. -/
abbrev Acts (i : Instr) (ph : Phase) : State → State → Prop := Relation.ReflTransGen (Act i ph)

end Sys2Proof.Machine
end

section
/-!
PROOF. Every shared operation of the model is a run of acts.
-/

namespace Sys2Proof.Machine

variable {i : Instr} {ph : Phase}

/-! ### Ports -/

/-- A port as it stands after one of the ports has been changed. -/
theorem State.modifyPort_get (s : State) (p q : PortId) (f : Port → Port) :
    (s.modifyPort p f).ports[q] = if q = p then f s.ports[p] else s.ports[q] := by
  simp only [State.modifyPort, Fin.getElem_fin, Vector.getElem_set, Fin.ext_iff]
  by_cases h : q.val = p.val
  · simp [h]
  · simp [h, Ne.symm h]

/-- A change of the ports alone that keeps every role and the MODE latches. -/
theorem State.ports_acts {s t : State} (alone : t = { s with ports := t.ports })
    (roles : ∀ p : PortId, t.ports[p].role = s.ports[p].role)
    (latches : ∀ p : PortId, s.ports[p].latches.getLsbD 7 = true → t.ports[p].latches.getLsbD 7 = true) :
    Acts i ph s t := by
  rw [alone]
  exact .single (.ports t.ports roles (.inr latches))

theorem State.modifyPort_acts (s : State) (p : PortId) (f : Port → Port)
    (role : (f s.ports[p]).role = s.ports[p].role)
    (latch : s.ports[p].latches.getLsbD 7 = true → (f s.ports[p]).latches.getLsbD 7 = true) :
    Acts i ph s (s.modifyPort p f) := by
  refine State.ports_acts rfl (fun q => ?_) (fun q => ?_) <;> rw [State.modifyPort_get]
  · split
    next h => rw [h, role]
    next => rfl
  · split
    next h => rw [h]; exact latch
    next => exact id

theorem State.finish_acts (s : State) (p : PortId) (code : Byte) (r : Reply) : Acts i ph s (s.finish p code r) :=
  s.modifyPort_acts p _ rfl id

/-- A port as it stands after a cause has been raised. -/
theorem State.raise_get (s : State) (cause : Attention) (p : PortId) :
    (s.raise cause).ports[p] = (s.ports[p]).raise s.now cause := by
  simp [State.raise]

theorem State.raise_acts (s : State) (cause : Attention) : Acts i ph s (s.raise cause) := by
  refine State.ports_acts rfl (fun q => ?_) (fun q h => ?_) <;> rw [State.raise_get]
  · rfl
  · simp only [Port.raise, BitVec.getLsbD_or, h, Bool.true_or]

theorem State.command_acts {s : State} {p : PortId} {code : Byte} {rights : Role → Bool} {subject : Nat}
    {body : State → State × Reply} (acts : Acts i ph s (body s).1) :
    Acts i ph s (s.command p code rights subject body) := by
  obtain ⟨-, h⟩ | ⟨-, -, h⟩ | ⟨-, -, h⟩ := State.command_cases p code rights subject body s <;> rw [h]
  · exact s.finish_acts p code _
  · exact acts.trans (State.finish_acts _ p code _)

theorem State.configWrite_acts {s : State} {p : PortId} {code : Byte} {subject : Nat}
    {body : State → State × Reply} (acts : s.clock.mode = .setup → Acts i ph s (body s).1) :
    Acts i ph s (s.configWrite p code subject body) := by
  obtain h | ⟨r, h⟩ | ⟨mode, h⟩ := State.configWrite_cases p code subject body s <;> rw [h]
  · exact s.finish_acts p code r
  · exact (acts mode).trans (State.finish_acts _ p code _)

theorem State.whenRunning_acts {s : State} {f : State → State} (acts : Acts i ph s (f s)) :
    Acts i ph s (s.whenRunning f) := by
  obtain ⟨-, h⟩ | ⟨-, h⟩ := State.whenRunning_cases f s <;> rw [h]
  exact acts

/-! ### Books -/

theorem Book.Becomes.refl (b : Book) : b.Becomes b := ⟨rfl, fun _ => id, id⟩

/-- A change of other fields than the serial, the cause and the samples. -/
theorem Book.Becomes.of_eq {b b' : Book} (serial : b'.serial = b.serial) (cause : b'.cause = b.cause)
    (samples : b'.samples = b.samples) : b.Becomes b' :=
  ⟨serial, fun _ h => cause.trans h, by unfold Book.SamplesBounded; rw [samples]; exact id⟩

theorem State.mapBook_acts (s : State) (n : Nat) {f : Book → Book} (becomes : ∀ b : Book, b.Becomes (f b)) :
    Acts i ph s (s.mapBook n f) := by
  refine .single (.books _ (.records (fun b => if b.serial = n then f b else b) fun b => ?_))
  split
  · exact becomes b
  · exact .refl b

theorem Book.takeCause_becomes (cause : RejectCause) (b : Book) : b.Becomes (b.takeCause cause) :=
  ⟨rfl, fun c h => by simp [Book.takeCause, h], id⟩

theorem State.withDue_acts (s : State) (due : List DueEntry) : Acts i ph s { s with due := due } :=
  .single (.aside due s.setpoints s.timers)

theorem State.setCause_acts (s : State) (n : Nat) (cause : RejectCause) : Acts i ph s (s.setCause n cause) :=
  (s.mapBook_acts n (Book.takeCause_becomes cause)).trans (State.withDue_acts _ _)

theorem State.leaveDue_acts (s : State) (n : Nat) : Acts i ph s (s.leaveDue n) := s.withDue_acts _

theorem State.joinDue_acts (s : State) (n : Nat) (want : Bool) : Acts i ph s (s.joinDue n want) :=
  (s.withDue_acts _).trans (State.raise_acts _ _)

theorem State.markSuspects_acts (s : State) : Acts i ph s s.markSuspects := by
  refine .single (.books _ (.records (fun b => if some b.serial ∈ s.carousel.clampMap then { b with suspect := true }
    else b) fun b => ?_))
  split
  · exact .of_eq rfl rfl rfl
  · exact .refl b

theorem State.withSealTimer_acts (s : State) (timer : Option Nat) :
    Acts i ph s { s with books := { s.books with sealTimer := timer } } :=
  .single (.books _ (.queue s.books.announceQ timer (.inl le_rfl)))

/-- R38 and R43: sealing keeps a cause, and computes only for a book without one. -/
theorem sealedBook_becomes (u : SetPointUnit) (geo : Geometry) (b : Book) : b.Becomes (sealedBook u geo b) := by
  unfold sealedBook
  dsimp only
  split
  next noCause _ =>
    split
    · split
      · exact .of_eq rfl rfl rfl
      · exact ⟨rfl, fun c h => by simp [noCause] at h, id⟩
    · exact .of_eq rfl rfl rfl
  next => exact .of_eq rfl rfl rfl

theorem State.sealBook_acts (s : State) (n : Nat) : Acts i ph s (s.sealBook n) :=
  (s.mapBook_acts n (sealedBook_becomes _ _)).trans (State.withSealTimer_acts _ none)

theorem State.sealOpenBook_acts (s : State) : Acts i ph s s.sealOpenBook := by
  unfold State.sealOpenBook
  split
  · exact s.sealBook_acts _
  · exact .refl

theorem State.withQueue_acts (s : State) (q : List Nat) (timer : Option Nat)
    (short : q.length ≤ s.books.announceQ.length ∨ q.length ≤ 8) :
    Acts i ph s { s with books := { s.books with announceQ := q, sealTimer := timer } } :=
  .single (.books _ (.queue q timer short))

theorem State.place_acts (s : State) (b : Book) (serial : b.serial = s.books.nextSerial) (samples : b.samples = []) :
    Acts i .intake s
      { s with books := { s.books with slots := placeBook s.books.slots b, lastSerial := s.books.nextSerial } } :=
  .single (.books _ (.place b rfl serial samples))

theorem State.withCounters_acts (s : State) (a d r w : BitVec 32) :
    Acts i ph s { s with books := { s.books with admitted := a, done := d, rejected := r, withdrawn := w } } :=
  .single (.books _ (.counters a d r w))

theorem State.freeBook_acts (s : State) (n : Nat) : Acts i .outlet s (s.freeBook n) :=
  .single (.books _ (.free n rfl))

theorem State.appendReject_acts (s : State) (e : RejectEntry) : Acts i ph s (s.appendReject e) :=
  (Relation.ReflTransGen.single (.books _ (.append e))).trans (State.raise_acts _ _)

theorem State.retireRejected_acts (s : State) (n : Nat) (place : Where) (cause : RejectCause) :
    Acts i .outlet s (s.retireRejected n place cause) := by
  unfold State.retireRejected
  split
  · exact .refl
  · exact ((s.appendReject_acts _).trans (State.withCounters_acts _ _ _ _ _)).trans (State.freeBook_acts _ n)

theorem State.retireDone_acts (s : State) (n : Nat) : Acts i .outlet s (s.retireDone n) :=
  (s.withCounters_acts _ _ _ _).trans (State.freeBook_acts _ n)

theorem State.retireWithdrawn_acts (s : State) (n : Nat) : Acts i .outlet s (s.retireWithdrawn n) :=
  (s.withCounters_acts _ _ _ _).trans (State.freeBook_acts _ n)

theorem State.raiseSpace_acts (s : State) (n : Nat) : Acts i ph s (s.raiseSpace n) := by
  unfold State.raiseSpace
  split
  · exact s.raise_acts _
  · exact .refl

theorem State.startOpenTime_acts (s : State) (n : Nat) : Acts i ph s (s.startOpenTime n) :=
  s.mapBook_acts n fun _ => .of_eq rfl rfl rfl

theorem State.stopOpenTime_acts (s : State) (n : Nat) : Acts i ph s (s.stopOpenTime n) :=
  s.mapBook_acts n fun _ => .of_eq rfl rfl rfl

/-! ### Cam windows -/

theorem State.withWindow_acts (s : State) (c : Fin 8) (w : Option CamWindow)
    (fires : w = none ∨ s.clock.mode.stationsFire = true) :
    Acts i ph s { s with cams := s.cams.set c { s.cams[c] with window := w } } :=
  .single (.cams _ (.window c w fires))

theorem State.beginWindow_acts (s : State) (c : Fin 8) (clamp start length : Nat)
    (fires : s.clock.mode.stationsFire = true) : Acts i ph s (s.beginWindow c clamp start length) :=
  s.withWindow_acts c _ (.inr fires)

theorem State.beginFixed_acts (s : State) (c : Fin 8) (clamp : Nat) (fires : s.clock.mode.stationsFire = true) :
    Acts i ph s (s.beginFixed c clamp) :=
  s.beginWindow_acts c clamp _ _ fires

theorem State.setCauseInClamp_acts (s : State) (clamp : Nat) (cause : RejectCause) :
    Acts i ph s (s.setCauseInClamp clamp cause) := by
  unfold State.setCauseInClamp
  split
  · exact s.setCause_acts _ _
  · exact .refl

theorem State.cutGlueWindow_acts (s : State) (c : Fin 8) : Acts i ph s (s.cutGlueWindow c) := by
  unfold State.cutGlueWindow
  split
  · exact .refl
  · exact (s.setCauseInClamp_acts _ _).trans (State.withWindow_acts _ c none (.inl rfl))

theorem State.cutGlueWindows_acts (s : State) : Acts i ph s s.cutGlueWindows :=
  (s.cutGlueWindow_acts _).trans (State.cutGlueWindow_acts _ _)

/-! ### Line mode -/

@[simp] theorem State.enterMode_clock (s : State) (m : LineMode) :
    (s.enterMode m).clock = { s.clock with mode := m } := rfl

/-- What the cutting of a glue window does hangs on nothing of the Pitch Clock. -/
theorem State.cutGlueWindow_withClock (s : State) (ch : Fin 8) (c : PitchClock) :
    ({ s with clock := c } : State).cutGlueWindow ch = { s.cutGlueWindow ch with clock := c } := by
  unfold State.cutGlueWindow
  dsimp only
  split
  · rfl
  · unfold State.setCauseInClamp
    dsimp only
    split <;> rfl

theorem State.cutGlueWindows_withClock (s : State) (c : PitchClock) :
    ({ s with clock := c } : State).cutGlueWindows = { s.cutGlueWindows with clock := c } := by
  simp only [State.cutGlueWindows, State.cutGlueWindow_withClock]

/-- R20 and R131: HOLD is entered after the glue windows have been cut. -/
theorem State.enterHold_eq (s : State) (kind : HoldKind) (ret : ReturnMode) :
    s.enterHold kind ret = ({ s.cutGlueWindows with
      clock := { s.cutGlueWindows.clock with standstillTimer := none, standstillTravel := 0 } } : State).enterMode
        (.hold kind ret) := by
  unfold State.enterHold State.stopStandstill
  rw [State.cutGlueWindows_withClock]
  simp only [State.cutGlueWindows_frame]

theorem State.enterHold_acts (s : State) (kind : HoldKind) (ret : ReturnMode)
    (mode : s.clock.mode = .run ∨ s.clock.mode = .runout)
    (move : modeMove i s.clock.mode.name .hold = true) : Acts i ph s (s.enterHold kind ret) := by
  rw [State.enterHold_eq]
  refine s.cutGlueWindows_acts.trans (.single (.mode _ (.hold kind ret ?_) ?_))
  · simpa using mode
  · simpa [LineMode.name] using move

/-- R24 and R180: HALTED is entered after the glue windows have been cut and the clamped books marked; HALT comes
last. -/
theorem State.enterHalted_eq (s : State) (cause : HaltCause) :
    s.enterHalted cause =
      let t := s.cutGlueWindows.markSuspects
      (({ t.endWindows.releaseForces.stopStandstill with
        carousel := { t.carousel with presence := false }
        stoppage := { t.stoppage with haltCause := some cause, furtherCause := false } } : State).enterMode
          .halted).raise .halt := rfl

theorem State.enterHalted_acts (s : State) (cause : HaltCause) (mode : s.clock.mode ≠ .halted)
    (move : modeMove i s.clock.mode.name .halted = true) : Acts i ph s (s.enterHalted cause) := by
  rw [State.enterHalted_eq]
  refine ((s.cutGlueWindows_acts.trans (State.markSuspects_acts _)).trans
    (.single (.mode _ (.halted cause ?_) ?_))).trans (State.raise_acts _ _)
  · simpa using mode
  · simpa [LineMode.name] using move

theorem State.takeHaltCause_acts (s : State) (cause : HaltCause)
    (move : s.clock.mode.started = true ∨ (s.clock.mode = .setup ∧ cause = .supply) →
      modeMove i s.clock.mode.name .halted = true) :
    Acts i ph s (s.takeHaltCause cause) := by
  by_cases started : s.clock.mode.started = true
  · rw [State.takeHaltCause_of_started started]
    exact s.enterHalted_acts cause (by rintro h; rw [h] at started; contradiction) (move (.inl started))
  · unfold State.takeHaltCause
    obtain mode | mode := LineMode.started_eq_false_iff.1 (Bool.eq_false_iff.2 started) <;> rw [mode]
    · dsimp only
      split
      next supply => exact s.enterHalted_acts cause (by simp [mode]) (move (.inr ⟨mode, supply⟩))
      next => exact .refl
    · exact .single (.further mode)

/-- R24: every event that can raise a halt cause may take a started line to HALTED. -/
theorem modeMove_halted {m : LineMode} (halts : modeMove.modeHalts i = true) (started : m.started = true) :
    modeMove i m.name .halted = true := by
  cases m with
  | setup | halted => contradiction
  | homing | run | hold kind ret | runout => exact halts

theorem State.takeHaltCause_acts_of_halts (s : State) {cause : HaltCause} (halts : modeMove.modeHalts i = true)
    (other : cause ≠ .supply) : Acts i ph s (s.takeHaltCause cause) :=
  s.takeHaltCause_acts cause fun h => modeMove_halted halts (h.resolve_right fun h => other h.2)

theorem State.returnFromHold_acts (s : State) {kind : HoldKind} {ret : ReturnMode}
    (mode : s.clock.mode = .hold kind ret)
    (move : ∀ m, m = .run ∨ m = .runout ∨ m = .setup → modeMove i .hold m = true) :
    Acts i ph s (s.returnFromHold ret) := by
  refine .single (.mode _ (.back kind ret mode) ?_)
  rw [mode]
  refine move _ ?_
  cases ret with
  | run => exact .inl rfl
  | runout =>
    unfold State.returnFromHold
    dsimp only
    split
    · exact .inr (.inr rfl)
    · exact .inr (.inl rfl)

theorem State.enterSetup_acts (s : State) (started : s.clock.mode.started = true)
    (move : modeMove i s.clock.mode.name .setup = true) : Acts i ph s s.enterSetup :=
  .single (.mode _ (.setup started) move)

theorem State.withClock_acts (s : State) {c : PitchClock} (act : ClockAct i ph s.clock c) :
    Acts i ph s { s with clock := c } :=
  .single (.clock c act)

theorem State.restartStandstill_acts (s : State) : Acts i ph s s.restartStandstill := by
  unfold State.restartStandstill
  split
  next mode => exact s.withClock_acts (.restart _ (.inl mode))
  next mode => exact s.withClock_acts (.restart _ (.inr mode))
  all_goals exact .refl

/-! ### Clamps -/

/-- R97: a clamp's entry is emptied, which in RUNOUT may take the line to SETUP. -/
theorem State.setupIfRunOut_acts (s : State) (move : s.clock.mode = .runout → i = .forwardCount) :
    Acts i ph s (if s.clock.mode = .runout ∧ s.carousel.allEmpty = true then s.enterSetup else s) := by
  split
  next h =>
    obtain rfl := move h.1
    exact s.enterSetup_acts (by rw [h.1]; rfl) (by rw [h.1]; rfl)
  next => exact .refl

theorem State.emptyClamp_acts (s : State) (clamp : Nat) (move : s.clock.mode = .runout → i = .forwardCount) :
    Acts i ph s (s.emptyClamp clamp) :=
  (Relation.ReflTransGen.single (.empty clamp)).trans (State.setupIfRunOut_acts _ move)

/-! ### Lifts -/

theorem LiftBuilder.openLift_mem {l : LiftBuilder} {o : Lift} (h : l.openLift = some o) :
    o ∈ l.lifts ∧ o.state = .opened :=
  ⟨List.mem_of_find?_eq_some h, by simpa using List.find?_some h⟩

theorem State.closeLift_acts (s : State) {o : Lift} (mem : o ∈ s.lifting.lifts) (isOpen : o.state = .opened) :
    Acts i ph s (s.closeLift o.number) :=
  (Relation.ReflTransGen.single (.lifting _ _ (.close o mem isOpen))).trans (State.raise_acts _ _)

theorem State.readyHead_delivery {s : State} {b : Book} (h : s.readyHead = some b) : s.delivery ≠ [] := by
  intro empty
  simp [State.readyHead, empty] at h

/-- R162: a join, up to the closing of the lift: the record, then the queue and the lift together. -/
theorem State.joined_acts (s : State) (b : Book) {o : Lift} (head : s.delivery ≠ [])
    (isOpen : s.lifting.openLift = some o) (room : o.books.length < s.lifting.limits.maxCount) :
    Acts i ph s (s.joined b o) :=
  (s.mapBook_acts b.serial (f := fun b => { b with state := .inLift, liftNumber := some o.number })
    fun _ => .of_eq rfl rfl rfl).trans
    (.single (.lifting _ _ (.join o b.serial b.spine _ isOpen head room)))

theorem State.joinLift_acts (s : State) (b : Book) {o : Lift} (head : s.delivery ≠ [])
    (isOpen : s.lifting.openLift = some o) (room : o.books.length < s.lifting.limits.maxCount) :
    Acts i ph s (s.joinLift b o) := by
  by_cases closing : s.lifting.limits.maxCount ≤ o.books.length + 1 ∨ s.timers.liftWindow = 0
  · rw [State.joinLift_of_closing closing]
    obtain ⟨mem, opened⟩ := LiftBuilder.openLift_mem isOpen
    refine (s.joined_acts b head isOpen room).trans (State.closeLift_acts _
      (o := { o with books := o.books ++ [b.serial], height := o.height + b.spine
                     windowTimer := some (s.now + s.timers.liftWindow) })
      (List.mem_map.2 ⟨o, mem, if_pos rfl⟩) opened)
  · obtain ⟨count, window⟩ := not_or.1 closing
    rw [State.joinLift_of_open (Nat.not_le.1 count) (Nat.pos_of_ne_zero window)]
    exact s.joined_acts b head isOpen room

/-- R163: a new lift with one book. -/
def State.firstLift (b : Book) (s : State) : Lift :=
  { number := s.lifting.nextNumber, state := .opened, books := [b.serial], height := b.spine, overdue := false
    windowTimer := some (s.now + s.timers.liftWindow), trimTimer := none }

/-- R163: a new lift as it stands before it may close. -/
def State.liftStarted (b : Book) (s : State) : State :=
  { s.takeHead b.serial s.lifting.nextNumber with
    lifting := { s.lifting with
      lifts := s.lifting.lifts ++ [s.firstLift b], lastNumber := s.lifting.nextNumber } }

/-- R163 and R165: a new lift closes at once with max count 1 or a lift window of 0. -/
theorem State.newLift_eq (s : State) (b : Book) : s.newLift b =
    if s.lifting.limits.maxCount ≤ 1 ∨ s.timers.liftWindow = 0 then
      (s.liftStarted b).closeLift (s.firstLift b).number
    else s.liftStarted b := rfl

theorem State.liftStarted_acts (s : State) (b : Book) (head : s.delivery ≠ []) (noOpen : s.lifting.openLift = none)
    (room : s.lifting.lifts.length < 4) : Acts i ph s (s.liftStarted b) :=
  (s.mapBook_acts b.serial (f := fun x => { x with state := .inLift, liftNumber := some s.lifting.nextNumber })
    fun _ => .of_eq rfl rfl rfl).trans
    (.single (.lifting _ _ (.start b.serial b.spine _ _ (.inl ⟨noOpen, rfl⟩) head room)))

theorem State.newLift_acts (s : State) (b : Book) (head : s.delivery ≠ []) (noOpen : s.lifting.openLift = none)
    (room : s.lifting.lifts.length < 4) : Acts i ph s (s.newLift b) := by
  rw [State.newLift_eq]
  split
  · exact (s.liftStarted_acts b head noOpen room).trans
      (State.closeLift_acts _ (List.mem_append_right _ (List.mem_singleton_self _)) rfl)
  · exact s.liftStarted_acts b head noOpen room

end Sys2Proof.Machine
end

section
/-!
PROOF. The pots, the lifts, the stations and the counts as runs of acts, and with them every command.
-/

namespace Sys2Proof.Machine

variable {i : Instr} {ph : Phase}

theorem foldl_acts {α : Type} {f : State → α → State} (acts : ∀ s x, Acts i ph s (f s x)) (l : List α) (s : State) :
    Acts i ph s (l.foldl f s) := by
  induction l generalizing s with
  | nil => exact .refl
  | cons x l ih => exact (acts s x).trans (ih _)

/-! ### Pots -/

@[simp] theorem State.pot_modifyPot (s : State) (id : PotId) (f : Pot → Pot) :
    (s.modifyPot id f).glue.pot id = f (s.glue.pot id) := by cases id <;> rfl

theorem State.modifyPot_modifyPot (s : State) (id : PotId) (f g : Pot → Pot) :
    (s.modifyPot id f).modifyPot id g = s.modifyPot id fun q => g (f q) := by cases id <;> rfl

theorem State.PotsSound.pot {s : State} (h : s.PotsSound) (id : PotId) : (s.glue.pot id).Sound := by
  cases id
  · exact h.spine
  · exact h.side

theorem State.modifyPot_acts (s : State) (id : PotId) {f : Pot → Pot}
    (sound : (s.glue.pot id).Sound → (f (s.glue.pot id)).Sound)
    (fixed : id = .spine → (f (s.glue.pot id)).enabled = (s.glue.pot id).enabled) :
    Acts i ph s (s.modifyPot id f) := by
  refine .single ?_
  cases id with
  | spine => exact .glue _ fun h => ⟨sound h.spine, h.side, (fixed rfl).trans h.spineEnabled⟩
  | side => exact .glue _ fun h => ⟨h.spine, sound h.side, h.spineEnabled⟩

/-- R119 to R122: a pot that enters a state has the timers of that state; only an enabled pot enters another than
UNKNOWN. -/
theorem Pot.enter_sound {p : Pot} {st : PotState} {now a b : Nat} (sound : p.Sound)
    (enabled : p.enabled = true ∨ st = .unknown) : (p.enter st now a b).Sound where
  settle := by unfold Pot.enter; dsimp only; split <;> simp_all
  heatUp := by unfold Pot.enter; dsimp only; split <;> simp_all
  stale := by intro h; simp_all [Pot.enter]
  disabled := by intro h; simp_all [Pot.enter]
  filtered := sound.filtered

theorem State.enterPotState_acts (s : State) (id : PotId) (st : PotState)
    (enabled : (s.glue.pot id).Sound → (s.glue.pot id).enabled = true ∨ st = .unknown) :
    Acts i ph s (s.enterPotState id st) :=
  (s.modifyPot_acts id (fun h => Pot.enter_sound h (enabled h)) fun _ => rfl).trans (State.raise_acts _ _)

/-- A change of a pot followed by its entry into a state is one change of the pot. -/
theorem State.enterPotState_modifyPot (s : State) (id : PotId) (f : Pot → Pot) (st : PotState) :
    (s.modifyPot id f).enterPotState id st =
      (s.modifyPot id fun q => (f q).enter st s.now s.timers.glueSettle s.timers.heatUp).raise .glue := by
  rw [State.enterPotState, State.modifyPot_modifyPot]
  simp

theorem State.changePot_unknown_acts (s : State) (id : PotId) : Acts i ph s (s.changePot id .unknown) := by
  unfold State.changePot
  split
  · exact .refl
  · rw [if_neg (by simp)]
    exact s.enterPotState_acts id .unknown fun _ => .inr rfl

/-- R117: the filter stays between the value it had and the calibrated value. -/
theorem Pot.filter_le {p : Pot} {c n : Nat} (hp : p.filtered ≤ n) (hc : c ≤ n) : p.filter c ≤ n := by
  unfold Pot.filter
  split
  · exact hc
  · have pow : (0 : Int) < 2 ^ p.shift := by positivity
    have le : Int.tdiv ((c : Int) - p.filtered) (2 ^ p.shift) ≤ max 0 ((c : Int) - p.filtered) := by
      obtain h | h := le_total 0 ((c : Int) - p.filtered)
      · rw [Int.tdiv_eq_ediv_of_nonneg h]
        exact le_max_of_le_right (Int.ediv_le_self _ h)
      · have opposite := Int.tdiv_nonneg (Int.neg_nonneg_of_nonpos h) pow.le
        rw [Int.neg_tdiv] at opposite
        exact le_max_of_le_left (by omega)
    omega

theorem Pot.calibrate_le (p : Pot) (raw : Nat) : p.calibrate raw ≤ 4000 := bring_le (by decide)

/-- R118: a reading leaves no pot UNKNOWN. -/
theorem PotState.decide_ne_unknown (before : PotState) (b : Band) : before.decide b ≠ .unknown := by
  cases before <;> cases b <;> decide

/-- R117 and R118: a reading restarts the stale timer, so that it is sound once the state has been decided. -/
theorem Pot.read_enter_sound {p : Pot} {st : PotState} {v due now a b : Nat} (enabled : p.enabled = true)
    (bound : v ≤ 4000) (known : st ≠ .unknown) :
    (({ p with filtered := v, stale := some due } : Pot).enter st now a b).Sound where
  settle := by unfold Pot.enter; dsimp only; split <;> simp_all
  heatUp := by unfold Pot.enter; dsimp only; split <;> simp_all
  stale h := absurd h known
  disabled h := by simp_all [Pot.enter]
  filtered := bound

theorem Pot.read_sound {p : Pot} {v due : Nat} (sound : p.Sound) (bound : v ≤ 4000) (known : p.state ≠ .unknown) :
    ({ p with filtered := v, stale := some due } : Pot).Sound where
  settle := sound.settle
  heatUp := sound.heatUp
  stale h := absurd h known
  disabled := sound.disabled
  filtered := bound

theorem State.takeReading_acts (s : State) (id : PotId) (raw : Nat) : Acts i ph s (s.takeReading id raw) := by
  unfold State.takeReading
  dsimp only
  split
  next enabled =>
    have bound (sound : (s.glue.pot id).Sound) := Pot.filter_le sound.filtered ((s.glue.pot id).calibrate_le raw)
    have known := PotState.decide_ne_unknown (s.glue.pot id).state
      ((s.glue.pot id).bandOf ((s.glue.pot id).filter ((s.glue.pot id).calibrate raw)))
    unfold State.changePot
    split
    next same =>
      rw [State.pot_modifyPot] at same
      exact s.modifyPot_acts id (fun h => Pot.read_sound h (bound h) (same ▸ known)) fun _ => rfl
    split
    next settling _ =>
      rw [State.enterPotState_modifyPot]
      refine ((s.modifyPot_acts id (fun h => Pot.read_enter_sound enabled (bound h) (by simp)) fun _ => rfl).trans
        (State.raise_acts _ _)).trans (State.enterPotState_acts _ id _ fun _ => .inl ?_)
      simpa [Pot.enter] using enabled
    next =>
      rw [State.enterPotState_modifyPot]
      exact (s.modifyPot_acts id (fun h => Pot.read_enter_sound enabled (bound h) known) fun _ => rfl).trans
        (State.raise_acts _ _)
  next disabled =>
    exact s.modifyPot_acts id (fun h => ⟨h.settle, h.heatUp, h.stale, h.disabled, Pot.calibrate_le _ _⟩) fun _ => rfl

/-- R115: the SIDE pot disabled is UNKNOWN with its timers stopped. -/
theorem State.enableSide_acts (s : State) (on : Bool) : Acts i ph s (s.enableSide on) := by
  unfold State.enableSide
  split
  · exact s.modifyPot_acts .side (fun h => ⟨h.settle, h.heatUp, h.stale, by simp, h.filtered⟩) (by simp)
  · have unknown : ((s.changePot .side .unknown).glue.pot .side).state = .unknown := by
      unfold State.changePot
      split
      next same => exact same
      next => simp [State.enterPotState, Pot.enter]
    refine (s.changePot_unknown_acts .side).trans (State.modifyPot_acts _ .side (fun h => ?_) (by simp))
    exact ⟨by simp [unknown], by simp [unknown], fun _ => rfl, fun _ => unknown, h.filtered⟩

/-! ### Lifts -/

/-- R160: closing lifts keeps their numbers, and so the number that is given next. -/
theorem closeIn_numbers (n : Nat) (lifts : List Lift) : (closeIn n lifts).map Lift.number = lifts.map Lift.number := by
  unfold closeIn
  rw [List.map_map]
  exact List.map_congr_left fun m _ => by simp only [Function.comp]; split <;> rfl

theorem State.closeLift_nextNumber (s : State) (n : Nat) :
    (s.closeLift n).lifting.nextNumber = s.lifting.nextNumber := by
  have numbers : (s.closeLift n).lifting.lifts.map Lift.number = s.lifting.lifts.map Lift.number :=
    closeIn_numbers n _
  unfold LiftBuilder.nextNumber
  simp only [numbers]
  rfl

/-- R162: the OPEN lift closes and a new one starts: the two changes of the lift list are one act. -/
theorem State.closeLift_liftStarted_acts (s : State) (b : Book) {o : Lift} (head : s.delivery ≠ [])
    (isOpen : s.lifting.openLift = some o) (room : s.lifting.lifts.length < 4) :
    Acts i ph s ((s.closeLift o.number).liftStarted b) := by
  have taken := (s.raise_acts (i := i) (ph := ph) .lift).trans ((s.raise .lift).mapBook_acts b.serial
    (f := fun x => { x with state := .inLift, liftNumber := some s.lifting.nextNumber }) fun _ => .of_eq rfl rfl rfl)
  refine taken.trans (.single ?_)
  unfold State.liftStarted State.firstLift
  rw [State.closeLift_nextNumber]
  exact .lifting _ _ (.start b.serial b.spine _ _ (.inr ⟨o, isOpen, rfl⟩) head room)

theorem State.offer_acts (s : State) (b : Book) (head : s.delivery ≠ []) : Acts i ph s (s.offer b).1 := by
  cases isOpen : s.lifting.openLift with
  | none =>
    by_cases room : s.lifting.lifts.length < Config.liftCapacity
    · rw [State.offer_of_no_lift isOpen room]
      exact s.newLift_acts b head isOpen room
    · rw [State.offer_of_full_list isOpen (Nat.not_lt.1 room)]
  | some o =>
    by_cases fits : s.fits b o = true
    · rw [State.offer_of_fits isOpen fits]
      exact s.joinLift_acts b head isOpen (State.fits_iff.1 fits).2.1
    rw [State.offer_of_not_fits isOpen fits]
    split
    next room =>
      dsimp only
      rw [State.newLift_eq]
      have started := s.closeLift_liftStarted_acts (i := i) (ph := ph) b head isOpen room
      split
      · exact started.trans
          (State.closeLift_acts _ (List.mem_append_right _ (List.mem_singleton_self _)) rfl)
      · exact started
    next => exact s.closeLift_acts (LiftBuilder.openLift_mem isOpen).1 (LiftBuilder.openLift_mem isOpen).2

theorem State.offerHeads_acts (n : Nat) (s : State) : Acts i ph s (State.offerHeads n s) := by
  induction n generalizing s with
  | zero => exact .refl
  | succ n ih =>
    unfold State.offerHeads
    split
    · exact .refl
    next b ready =>
      dsimp only
      split
      · exact (s.offer_acts b (State.readyHead_delivery ready)).trans (ih _)
      · exact s.offer_acts b (State.readyHead_delivery ready)

theorem State.offerDelivery_acts (s : State) : Acts i ph s s.offerDelivery := State.offerHeads_acts _ s

/-- R170: the books of a lift are CUTTING. -/
def State.markCutting (books : List Nat) (s : State) : State :=
  books.foldl (fun s n => s.mapBook n fun b => { b with state := .cutting }) s

@[simp] theorem State.markCutting_lifting (s : State) (books : List Nat) :
    (s.markCutting books).lifting = s.lifting := by
  unfold State.markCutting
  induction books generalizing s with
  | nil => rfl
  | cons n l ih => exact (ih _).trans rfl

theorem State.markCutting_acts (s : State) (books : List Nat) : Acts i ph s (s.markCutting books) :=
  foldl_acts (fun s n => s.mapBook_acts n (f := fun b => { b with state := .cutting }) fun _ => .of_eq rfl rfl rfl)
    books s

theorem State.dispatchLift_eq (s : State) (n : Nat) (books : List Nat) :
    s.dispatchLift n books = (s.markCutting books).mapLift n fun l =>
      { l with state := .dispatched, overdue := false, trimTimer := some (s.now + s.timers.trimTimeout) } := rfl

theorem State.dispatchLift_acts (s : State) {c : Lift} (books : List Nat) (none_ : s.lifting.dispatched = none)
    (oldest : s.lifting.oldestClosed = some c) : Acts i ph s (s.dispatchLift c.number books) := by
  rw [State.dispatchLift_eq]
  refine (s.markCutting_acts books).trans (.single (.lifting _ _ (.dispatch c _ ?_ ?_)))
  · rw [State.markCutting_lifting]; exact none_
  · rw [State.markCutting_lifting]; exact oldest

/-- R169: the OPEN lift, closed, is the oldest CLOSED one where there was none and none is DISPATCHED: it stands at the
head. -/
theorem State.closeLift_oldestClosed {s : State} {o : Lift} (isOpen : s.lifting.openLift = some o)
    (noClosed : s.lifting.oldestClosed = none) (noDispatched : s.lifting.dispatched = none) :
    (s.closeLift o.number).lifting.dispatched = none
    ∧ ∃ c, (s.closeLift o.number).lifting.oldestClosed = some c ∧ c.number = o.number := by
  have allOpen : ∀ m ∈ s.lifting.lifts, m.state = .opened := by
    intro m mem
    have notClosed := List.find?_eq_none.1 noClosed m mem
    have notDispatched := List.find?_eq_none.1 noDispatched m mem
    cases h : m.state <;> simp_all
  have closed : (s.closeLift o.number).lifting.lifts = closeIn o.number s.lifting.lifts := rfl
  obtain ⟨mem, opened⟩ := LiftBuilder.openLift_mem isOpen
  unfold LiftBuilder.openLift at isOpen
  unfold LiftBuilder.dispatched LiftBuilder.oldestClosed
  rw [closed]
  cases h : s.lifting.lifts with
  | nil => simp [h] at mem
  | cons m rest =>
    rw [h] at isOpen allOpen
    have head : m = o := by simpa [allOpen m (List.mem_cons_self ..)] using isOpen
    subst head
    refine ⟨List.find?_eq_none.2 fun x hx => ?_, { m with state := .closed, windowTimer := none },
      by simp [closeIn], rfl⟩
    obtain ⟨y, hy, rfl⟩ := List.mem_map.1 hx
    have := allOpen y hy
    split <;> simp [this]

theorem State.takeLift_acts (s : State) (n : Nat) : Acts i ph s (s.takeLift n).1 := by
  unfold State.takeLift
  split
  · exact .refl
  next notDispatched =>
    have none_ : s.lifting.dispatched = none := by simpa using notDispatched
    split
    next _ _ c oldest =>
      split
      next number =>
        subst number
        exact s.dispatchLift_acts c.books none_ oldest
      · split <;> exact .refl
    next o noClosed isOpen =>
      split
      next number =>
        subst number
        obtain ⟨none', c, oldest, number⟩ := State.closeLift_oldestClosed isOpen noClosed none_
        have dispatch := State.dispatchLift_acts (i := i) (ph := ph) (s.closeLift o.number) o.books none' oldest
        rw [number] at dispatch
        exact (s.closeLift_acts (LiftBuilder.openLift_mem isOpen).1 (LiftBuilder.openLift_mem isOpen).2).trans dispatch
      · exact .refl
    · exact .refl

theorem State.retireLift_acts (s : State) (fault : Bool) (books : List Nat) :
    Acts i .outlet s (s.retireLift fault books) := by
  refine foldl_acts (fun s n => ?_) books s
  split
  · exact s.retireRejected_acts n _ _
  · exact s.retireDone_acts n

theorem State.removeLift_acts (s : State) (n : Nat) : Acts i ph s (s.removeLift n) :=
  .single (.lifting _ _ (.remove n))

theorem State.cutDone_acts (s : State) (n : Nat) (outcome : Byte) : Acts i .outlet s (s.cutDone n outcome).1 := by
  unfold State.cutDone
  split
  · exact .refl
  · split
    · exact .refl
    · split
      · exact ((s.retireLift_acts false _).trans (State.removeLift_acts _ n)).trans (State.offerDelivery_acts _)
      · exact ((s.retireLift_acts true _).trans (State.removeLift_acts _ n)).trans (State.offerDelivery_acts _)
      · exact .refl

end Sys2Proof.Machine
end

section
/-!
PROOF. The stations, the counts, the inputs and the configuration as runs of acts, and with them every command.
-/

namespace Sys2Proof.Machine

variable {i : Instr} {ph : Phase}

/-! ### Stations -/

@[simp] theorem State.missStation_frame (s : State) (n : Nat) (m : Station) :
    (s.missStation n m).now = s.now ∧ (s.missStation n m).clock = s.clock ∧ (s.missStation n m).timers = s.timers
    ∧ (s.missStation n m).setpoints = s.setpoints ∧ (s.missStation n m).carousel = s.carousel
    ∧ (s.missStation n m).glue = s.glue ∧ (s.missStation n m).cams = s.cams
    ∧ (s.missStation n m).delivery = s.delivery ∧ (s.missStation n m).lifting = s.lifting
    ∧ (s.missStation n m).stoppage = s.stoppage ∧ (s.missStation n m).ports = s.ports := by
  cases m with
  | infeed | mill | release => and_intros <;> rfl
  | spineGlue | cover => simp [State.missStation]
  | sideGlue =>
    simp only [State.missStation]
    split
    · simp
    · split <;> simp
  | nip => simp only [State.missStation]; split <;> simp

/-- R94: the missed stations leave the position and the clamps alone. -/
theorem State.missedStations_frame (s : State) (n : Nat) (l : List Station) :
    (l.foldl (State.missStation n) s).clock = s.clock ∧ (l.foldl (State.missStation n) s).carousel = s.carousel := by
  induction l generalizing s with
  | nil => exact ⟨rfl, rfl⟩
  | cons m l ih => simpa using ih (s.missStation n m)

theorem State.missStation_acts (s : State) (n : Nat) (m : Station) : Acts i ph s (s.missStation n m) := by
  cases m with
  | infeed | mill | release => exact .refl
  | spineGlue => exact s.setCause_acts n _
  | sideGlue =>
    simp only [State.missStation]
    split
    · exact .refl
    · split
      · exact s.setCause_acts n _
      · exact .refl
  | cover => exact (s.leaveDue_acts n).trans (State.setCause_acts _ n _)
  | nip =>
    simp only [State.missStation]
    split
    · exact (s.stopOpenTime_acts n).trans (State.setCause_acts _ n _)
    · exact s.stopOpenTime_acts n

section Stations

variable {s : State} {b : Book} {clamp n : Nat} (fires : s.clock.mode.stationsFire = true)
include fires

theorem State.spineGlueCheck_acts : Acts i ph s (s.spineGlueCheck b clamp) := by
  unfold State.spineGlueCheck
  split
  · exact .refl
  · split
    · dsimp only
      split
      · exact (s.beginWindow_acts _ clamp _ _ fires).trans (State.startOpenTime_acts _ _)
      · exact s.startOpenTime_acts _
    · exact s.setCause_acts _ _

theorem State.sideGlueCheck_acts : Acts i ph s (s.sideGlueCheck b clamp) := by
  unfold State.sideGlueCheck
  split
  · exact .refl
  · split
    · exact .refl
    · split
      · exact .refl
      · split
        · exact .refl
        · split
          · exact s.beginWindow_acts _ clamp _ _ fires
          · exact s.setCause_acts _ _

theorem State.coverDecision_acts : Acts i ph s (s.coverDecision b clamp) := by
  unfold State.coverDecision
  dsimp only
  split
  · exact s.leaveDue_acts _
  · split
    · have covered : Acts i ph s ((s.leaveDue b.serial).mapBook b.serial fun b => { b with coverApplied := true }) :=
        (s.leaveDue_acts _).trans (State.mapBook_acts _ _ fun _ => .of_eq rfl rfl rfl)
      exact covered.trans (State.beginFixed_acts _ _ clamp fires)
    · exact (s.leaveDue_acts _).trans (State.setCause_acts _ _ _)

theorem State.nipEvent_acts : Acts i ph s (s.nipEvent b clamp) := by
  unfold State.nipEvent
  dsimp only
  split
  · exact (s.stopOpenTime_acts _).trans (State.beginFixed_acts _ _ clamp fires)
  · exact s.stopOpenTime_acts _

/-- R95 and R96: a delivered book takes its place from the clamp to the delivery queue in one act. -/
theorem State.releaseEvent_acts (full : s.carousel.bookIn clamp = some n) :
    Acts .forwardCount .outlet s (s.releaseEvent b clamp) := by
  unfold State.releaseEvent
  dsimp only
  have opened : Acts .forwardCount .outlet s (s.beginFixed Channel.opening clamp) :=
    s.beginFixed_acts _ clamp fires
  refine opened.trans ?_
  split
  · have cooling : Acts .forwardCount .outlet (s.beginFixed Channel.opening clamp)
        ((s.beginFixed Channel.opening clamp).mapBook b.serial fun x => { x with
          state := .cooling, clamp := none
          coolingDeadline := some (s.now + (b.setPoints.map SetPoints.coolingTime).getD 0) }) :=
      State.mapBook_acts _ _ fun _ => .of_eq rfl rfl rfl
    exact (cooling.trans (.single (.deliver clamp b.serial n full))).trans (State.setupIfRunOut_acts _ fun _ => rfl)
  · exact ((State.beginFixed_acts (s.beginFixed Channel.opening clamp) Channel.reject clamp fires).trans
      (State.retireRejected_acts _ _ _ _)).trans
      (State.emptyClamp_acts _ clamp fun _ => rfl)

theorem State.actAt_acts (st : Station) (full : s.carousel.bookIn clamp = some n) :
    Acts .forwardCount .outlet s (s.actAt st clamp n) := by
  unfold State.actAt
  split
  · exact .refl
  next b _ =>
    have moved : Acts .forwardCount .outlet s (s.mapBook n fun b => { b with progress := some st }) :=
      s.mapBook_acts n fun _ => .of_eq rfl rfl rfl
    cases st with
    | infeed => exact .refl
    | mill => exact moved.trans (State.beginFixed_acts _ _ clamp fires)
    | spineGlue => exact moved.trans (State.spineGlueCheck_acts fires)
    | sideGlue => exact moved.trans (State.sideGlueCheck_acts fires)
    | cover => exact moved.trans (State.coverDecision_acts fires)
    | nip => exact moved.trans (State.nipEvent_acts fires)
    | release => exact State.releaseEvent_acts fires full

theorem State.workEvent_acts (st : Station) (clamp : Nat) : Acts .forwardCount .outlet s (s.workEvent st clamp) := by
  unfold State.workEvent
  split
  · exact .refl
  next n full =>
    split
    · exact .refl
    next b _ =>
      split
      · obtain ⟨clock, carousel⟩ := s.missedStations_frame n (missedStations b.progress st)
        exact (foldl_acts (fun s m => s.missStation_acts n m) _ s).trans
          (State.actAt_acts (by rw [clock]; exact fires) st (by rw [carousel]; exact full))
      · exact .refl

end Stations

theorem State.withFired_acts (s : State) (fired : Vector Bool 7) :
    Acts i ph s { s with clock := { s.clock with fired := fired } } :=
  s.withClock_acts (.marks fired s.clock.homingTravel s.clock.pitchesSinceHome s.clock.standstillTravel
    s.clock.sensors)

/-- R9: a station fires, in a mode in which stations do, or nothing happens. -/
theorem State.fireIfDue_cases (s : State) (st : Station) :
    (s.clock.mode.stationsFire = true ∧ s.fireIfDue st = s.fireStation st) ∨ s.fireIfDue st = s := by
  unfold State.fireIfDue
  split
  next due =>
    simp only [Bool.and_eq_true] at due
    exact .inl ⟨due.1.1, rfl⟩
  next => exact .inr rfl

/-- R9: a station other than Infeed fires in the outlet. -/
theorem State.fireIfDue_acts (s : State) {st : Station} (work : st ≠ .infeed) :
    Acts .forwardCount .outlet s (s.fireIfDue st) := by
  obtain ⟨fires, h⟩ | h := s.fireIfDue_cases st <;> rw [h]
  have worked := (s.withFired_acts (s.clock.fired.set st.index true)).trans (State.workEvent_acts
    (s := { s with clock := { s.clock with fired := s.clock.fired.set st.index true } }) fires st
    (s.clock.clampAt st))
  cases st with
  | infeed => contradiction
  | mill | spineGlue | sideGlue | cover | nip | release => exact worked

/-! ### Admission -/

@[simp] theorem State.supplyBook_frame (s : State) :
    s.supplyBook.1.now = s.now ∧ s.supplyBook.1.clock = s.clock ∧ s.supplyBook.1.timers = s.timers
    ∧ s.supplyBook.1.setpoints = s.setpoints ∧ s.supplyBook.1.carousel = s.carousel ∧ s.supplyBook.1.due = s.due
    ∧ s.supplyBook.1.glue = s.glue ∧ s.supplyBook.1.cams = s.cams ∧ s.supplyBook.1.delivery = s.delivery
    ∧ s.supplyBook.1.lifting = s.lifting ∧ s.supplyBook.1.stoppage = s.stoppage ∧ s.supplyBook.1.wires = s.wires
    ∧ s.supplyBook.1.arriving = s.arriving ∧ s.supplyBook.1.pending = s.pending := by
  unfold State.supplyBook
  split
  · dsimp only; split <;> simp
  · and_intros <;> rfl

theorem State.supplyBook_acts (s : State) : Acts i .intake s s.supplyBook.1 := by
  unfold State.supplyBook
  split
  next head rest queue =>
    have sealed_ : Acts i .intake s (if s.openBook = some head then s.sealBook head else s) := by
      split
      · exact s.sealBook_acts head
      · exact .refl
    refine (sealed_.trans (State.withQueue_acts _ rest _ (.inl ?_))).trans (State.raiseSpace_acts _ _)
    have same : (if s.openBook = some head then s.sealBook head else s).books.announceQ = head :: rest := by
      split <;> exact queue
    rw [same]
    simp
  · exact s.place_acts _ rfl rfl

/-- R87: the conditions of an admission, as they are tested. -/
theorem State.admissionHolds_iff {s : State} {clamp : Nat} : s.admissionHolds clamp = true ↔
    s.clock.mode = .run ∧ s.carousel.clampMap[clamp]? = some none ∧ s.carousel.locked clamp = false
      ∧ s.carousel.presence = true ∧ s.occupancy < s.clock.geometry.capacity ∧ s.glue.spine.state = .ready
      ∧ (s.glue.side.state = .ready ∨ s.glue.side.enabled = false) := by
  simp only [State.admissionHolds, GlueSupervisor.ready, Bool.and_eq_true, Bool.or_eq_true, Bool.not_eq_true',
    beq_iff_eq, decide_eq_true_eq, and_assoc]

theorem State.admitBlock_acts (s : State) (clamp : Nat) (holds : s.admissionHolds clamp = true) :
    Acts .forwardCount .intake s (s.admitBlock clamp) := by
  obtain ⟨mode, -, -, -, room, -⟩ := State.admissionHolds_iff.1 holds
  unfold State.admitBlock
  dsimp only
  have record : Acts .forwardCount .intake s (s.supplyBook.1.mapBook s.supplyBook.2 fun b =>
      { b with state := .inClamp, clamp := some clamp, progress := some .infeed,
               admittedAt := some s.clock.pitchCounter }) :=
    s.supplyBook_acts.trans (State.mapBook_acts _ _ fun _ => .of_eq rfl rfl rfl)
  refine ((record.trans (.single (.fill clamp s.supplyBook.2 rfl rfl ?_ ?_))).trans
    (State.withCounters_acts _ _ _ _ _)).trans ((State.joinDue_acts _ _ _).trans
      (State.beginFixed_acts _ Channel.close clamp ?_))
  · simpa using mode
  · simpa [State.occupancy] using room
  · simp [mode, LineMode.stationsFire, LineMode.name]

/-! ### Counts -/

theorem State.checkPitches_acts (s : State) (halts : modeMove.modeHalts i = true) : Acts i ph s s.checkPitches := by
  unfold State.checkPitches
  split
  · exact s.takeHaltCause_acts_of_halts halts (by simp)
  · exact .refl

theorem State.checkHomingTravel_acts (s : State) (halts : modeMove.modeHalts i = true) :
    Acts i ph s s.checkHomingTravel := by
  unfold State.checkHomingTravel
  split
  · exact s.takeHaltCause_acts_of_halts halts (by simp)
  · exact .refl

theorem State.checkStandstill_acts (s : State)
    (move : ∀ m, m = .run ∨ m = .runout ∨ m = .setup → modeMove i .hold m = true) :
    Acts i ph s s.checkStandstill := by
  unfold State.checkStandstill
  split
  next mode =>
    split
    · exact s.returnFromHold_acts mode move
    · exact .refl
  all_goals exact .refl

/-- The travel counts are marks. -/
theorem PitchClock.countTravel_act (c : PitchClock) : ClockAct i ph c c.countTravel := by
  unfold PitchClock.countTravel
  split
  · exact .marks c.fired (c.homingTravel + 1) c.pitchesSinceHome c.standstillTravel c.sensors
  · exact .marks c.fired c.homingTravel c.pitchesSinceHome (c.standstillTravel + 1) c.sensors
  all_goals exact .marks c.fired c.homingTravel c.pitchesSinceHome c.standstillTravel c.sensors

/-- A forward count up to the station events (R1, R2, R11, R18). -/
def State.counted (s : State) : State :=
  ({ s.restartStandstill with
    clock := s.restartStandstill.clock.advance, cams := s.cams.map CamChannel.advance } : State).checkPitches

theorem State.restartStandstill_cams (s : State) : s.restartStandstill.cams = s.cams := by
  unfold State.restartStandstill
  split <;> rfl

theorem State.counted_acts (s : State) : Acts .forwardCount .count s s.counted := by
  refine ((s.restartStandstill_acts.trans (State.withClock_acts _ (.advance rfl))).trans
    (.single (.cams _ ?_))).trans (State.checkPitches_acts _ rfl)
  rw [← s.restartStandstill_cams]
  exact .advance

/-- The stations after Infeed, and what the count then reaches (R9, R12, R16). -/
def State.outlet (s : State) : State :=
  let u := [Station.mill, .spineGlue, .sideGlue, .cover, .nip, .release].foldl State.fireIfDue s
  ({ u with clock := u.clock.countTravel } : State).checkHomingTravel.checkStandstill

theorem State.outlet_acts (s : State) : Acts .forwardCount .outlet s s.outlet := by
  have fired (l : List Station) (work : ∀ st ∈ l, st ≠ .infeed) (s : State) :
      Acts .forwardCount .outlet s (l.foldl State.fireIfDue s) := by
    induction l generalizing s with
    | nil => exact .refl
    | cons st l ih =>
      exact (s.fireIfDue_acts (work st (List.mem_cons_self ..))).trans
        (ih (fun x hx => work x (List.mem_cons_of_mem _ hx)) _)
  exact (((fired _ (by decide) s).trans (State.withClock_acts _ (PitchClock.countTravel_act _))).trans
    (State.checkHomingTravel_acts _ rfl)).trans
      (State.checkStandstill_acts _ (by rintro m (rfl | rfl | rfl) <;> rfl))

/-- R9: Infeed comes first. -/
theorem State.stationRule_eq (s : State) : s.stationRule =
    [Station.mill, .spineGlue, .sideGlue, .cover, .nip, .release].foldl State.fireIfDue (s.fireIfDue .infeed) :=
  List.foldl_cons ..

/-- R9: an advance in its three parts: the count, the Infeed event and the rest. -/
theorem State.advance_parts (s : State) :
    s.restartStandstill.advance = (s.counted.fireIfDue .infeed).outlet := by
  simp only [State.advance, State.counted, State.outlet, State.stationRule_eq, State.restartStandstill_cams]

theorem State.fireStation_infeed (s : State) : s.fireStation .infeed =
    ({ s with clock := { s.clock with fired := s.clock.fired.set 0 true } } : State).infeedEvent
      (s.clock.clampAt .infeed) := rfl

theorem State.infeedEvent_acts (s : State) (clamp : Nat) : Acts .forwardCount .intake s (s.infeedEvent clamp) := by
  unfold State.infeedEvent
  split
  next holds => exact s.admitBlock_acts clamp holds
  next => exact .refl

theorem State.fireIfDue_infeed_acts (s : State) : Acts .forwardCount .intake s (s.fireIfDue .infeed) := by
  obtain ⟨-, h⟩ | h := s.fireIfDue_cases .infeed <;> rw [h]
  rw [State.fireStation_infeed]
  exact (s.withFired_acts _).trans (State.infeedEvent_acts _ _)

end Sys2Proof.Machine
end

section
/-!
PROOF. What the commands do, as runs of acts: the bodies of the port commands, the expiries and the inputs.
-/

namespace Sys2Proof.Machine

variable {i : Instr} {ph : Phase}

/-! ### Book Table -/

theorem announcedBook_samples (n : Nat) (job : Job) (cover : Word32) : (announcedBook n job cover).samples = [] := rfl

theorem State.createAnnounced_acts (s : State) (job : Job) (cover : Word32) (room : s.books.announceQ.length < 8) :
    Acts i .intake s (s.createAnnounced job cover) := by
  have placed := s.place_acts (i := i) (announcedBook s.books.nextSerial job cover) rfl rfl
  refine placed.trans (State.withQueue_acts _ (s.books.announceQ ++ [s.books.nextSerial])
    (some (s.now + s.timers.sealIdle)) (.inr ?_))
  simpa using room

theorem State.sealBook_announceQ (s : State) (n : Nat) : (s.sealBook n).books.announceQ = s.books.announceQ := rfl

theorem State.sealOpenBook_announceQ (s : State) : s.sealOpenBook.books.announceQ = s.books.announceQ := by
  unfold State.sealOpenBook
  split <;> rfl

theorem State.announce_acts (s : State) (job : Job) (cover : Word32) : Acts i .intake s (s.announce job cover).1 := by
  unfold State.announce
  split
  · exact .refl
  next room =>
    refine s.sealOpenBook_acts.trans (State.createAnnounced_acts _ job cover ?_)
    rw [State.sealOpenBook_announceQ]
    exact Nat.not_le.1 room

/-- R35: the 8 most recent samples, each brought to 99,999 at most. -/
theorem keepRecent_bounded {b : Book} (samples : List Nat) (h : b.SamplesBounded) :
    ({ b with samples := keepRecent (b.samples ++ samples.map (min Config.topSample)) } : Book).SamplesBounded := by
  refine ⟨?_, fun x mem => ?_⟩
  · simp only [keepRecent, List.length_drop, Config.sampleCapacity]
    omega
  · obtain old | new := List.mem_append.1 (List.mem_of_mem_drop mem)
    · exact h.2 x old
    · obtain ⟨y, -, rfl⟩ := List.mem_map.1 new
      exact min_le_left _ _

theorem State.caliper_acts (s : State) (samples : List Nat) : Acts i ph s (s.caliper samples).1 := by
  unfold State.caliper
  split
  · exact .refl
  · split
    · exact .refl
    next n _ =>
      have kept : Acts i ph s (s.mapBook n fun b =>
          { b with samples := keepRecent (b.samples ++ samples.map (min Config.topSample)) }) :=
        s.mapBook_acts n fun b => ⟨rfl, fun _ => id, keepRecent_bounded samples⟩
      exact kept.trans (State.withSealTimer_acts _ _)

theorem State.sealCommand_acts (s : State) : Acts i ph s s.sealCommand.1 := by
  unfold State.sealCommand
  split
  · exact s.sealBook_acts _
  · exact .refl

theorem State.withdraw_acts (s : State) (n : Nat) : Acts i .outlet s (s.withdraw n).1 := by
  unfold State.withdraw
  split
  · exact ((s.withQueue_acts (s.books.announceQ.erase n) _ (.inl List.length_erase_le)).trans
      (State.retireWithdrawn_acts _ n)).trans (State.raiseSpace_acts _ _)
  · exact .refl

theorem State.rejectBook_acts (s : State) (n : Nat) : Acts i ph s (s.rejectBook n).1 := by
  unfold State.rejectBook
  split
  · exact .refl
  · split
    · exact s.setCause_acts n _
    · exact .refl

theorem State.removeReject_acts (s : State) : Acts i ph s s.removeReject := .single (.books _ .take)

theorem State.beginTake_acts (s : State) (p : PortId) : Acts i ph s (s.beginTake p) := by
  unfold State.beginTake
  exact s.modifyPort_acts p _ rfl id

theorem State.endTake_acts (s : State) (p : PortId) (n : Nat) : Acts i ph s (s.endTake p n) := by
  unfold State.endTake
  split
  · exact .refl
  · split
    · exact s.modifyPort_acts p _ rfl id
    · split
      · exact s.finish_acts p _ _
      · split
        · exact s.finish_acts p _ _
        · split
          · exact s.removeReject_acts.trans (State.finish_acts _ p _ _)
          · exact s.finish_acts p _ _

theorem State.recordReport_acts (s : State) (n : Nat) (coverId : Word32) : Acts i ph s (s.recordReport n coverId) := by
  have recorded : Acts i ph s (s.mapBook n fun b => { b with observedCover := some coverId }) :=
    s.mapBook_acts n fun _ => .of_eq rfl rfl rfl
  exact recorded.trans (State.withDue_acts _ _)

theorem State.lateReport_state (s : State) (n : Nat) : (s.lateReport n).1 = s := by
  unfold State.lateReport
  split
  · rfl
  · split <;> rfl

theorem State.coverSeen_acts (s : State) (n : Nat) (coverId : Word32) : Acts i ph s (s.coverSeen n coverId).1 := by
  unfold State.coverSeen
  split
  · rw [State.lateReport_state]
  · exact .refl
  · split
    · exact .refl
    · dsimp only
      split
      · exact s.recordReport_acts n coverId
      · split
        · exact s.recordReport_acts n coverId
        · exact (s.recordReport_acts n coverId).trans (State.setCause_acts _ n _)

/-! ### Line-mode commands -/

theorem State.removeBook_acts (s : State) (n clamp : Nat) (mode : s.clock.mode = .setup) :
    Acts i .outlet s (s.removeBook n clamp) := by
  refine ((s.leaveDue_acts n).trans (State.retireRejected_acts _ n _ _)).trans (State.emptyClamp_acts _ clamp ?_)
  intro runout
  simp [mode] at runout

theorem State.resolveClamp_acts (s : State) (clamp decision : Byte) :
    Acts i .outlet s (s.resolveClamp clamp decision).1 := by
  unfold State.resolveClamp
  dsimp only
  split
  · exact .refl
  next mode =>
    split
    · exact .refl
    · split
      · exact .refl
      · split
        · exact .refl
        next n _ =>
          split
          · exact s.mapBook_acts n fun _ => .of_eq rfl rfl rfl
          · exact s.removeBook_acts n _ (not_not.1 mode)

/-! ### Carousel and pots -/

theorem State.setLock_acts (s : State) (clamp : Byte) (locked : Bool) : Acts i ph s (s.setLock clamp locked).1 := by
  unfold State.setLock
  split
  · exact .single (.carousel s.carousel.presence _ .inl)
  · exact .refl

theorem isDue_isSome {now : Nat} {timer : Option Nat} (h : isDue now timer = true) : timer.isSome = true := by
  obtain ⟨due, rfl, -⟩ := isDue_iff.1 h
  rfl

/-- R115: a pot that is not UNKNOWN is enabled. -/
theorem Pot.Sound.enabled_of_ne {p : Pot} (h : p.Sound) (known : p.state ≠ .unknown) : p.enabled = true := by
  by_contra off
  exact known (h.disabled (Bool.not_eq_true _ ▸ off))

/-! ### Sensors -/

theorem State.modifySensor_acts (s : State) (n : Sensor) (f : Conditioner → Conditioner) :
    Acts i ph s (s.modifySensor n f) :=
  s.withClock_acts (.marks s.clock.fired s.clock.homingTravel s.clock.pitchesSinceHome s.clock.standstillTravel _)

/-- The events that report a sensor's edge. -/
def reportsSensor (i : Instr) (n : Sensor) : Prop := (∃ level, i = .sensorRawChange n level) ∨ i = .debounceExpiry n

theorem modeHalts_of_reportsSensor {n : Sensor} (h : reportsSensor i n) (other : n ≠ .block) :
    modeMove.modeHalts i = true := by
  obtain ⟨level, rfl⟩ | rfl := h <;> simpa [modeMove.modeHalts] using other

theorem State.homeEdge_acts (s : State) (reports : reportsSensor i .home) : Acts i ph s s.homeEdge := by
  have halts := modeHalts_of_reportsSensor reports (by decide)
  have accepted (s : State) : Acts i ph s (if s.clock.homeAccepted then
      { s with clock := { s.clock with pitchesSinceHome := 0 } } else s.takeHaltCause .homeMismatch) := by
    split
    · exact s.withClock_acts (.marks s.clock.fired s.clock.homingTravel 0 s.clock.standstillTravel s.clock.sensors)
    · exact s.takeHaltCause_acts_of_halts halts (by simp)
  unfold State.homeEdge
  split
  next mode =>
    refine .single (.mode _ (.home mode) ?_)
    obtain ⟨level, rfl⟩ | rfl := reports <;> rw [mode] <;> rfl
  next => exact accepted s
  next => exact accepted s
  next => exact accepted s
  next => exact .refl
  next => exact .refl

theorem State.blockEdge_acts (s : State) : Acts i ph s s.blockEdge := by
  unfold State.blockEdge
  split
  next started => exact .single (.carousel true s.carousel.locks fun _ => .inr started)
  next => exact .refl

theorem State.sensorEdge_acts (s : State) (n : Sensor) (reports : reportsSensor i n) :
    Acts i ph s (s.sensorEdge n) := by
  cases n with
  | block => exact s.blockEdge_acts
  | home => exact s.homeEdge_acts reports
  | jamA | jamB =>
    exact s.takeHaltCause_acts_of_halts (modeHalts_of_reportsSensor reports (by decide)) (by simp)

theorem State.conditionedChange_acts (s : State) (n : Sensor) (level : Bool) (reports : reportsSensor i n) :
    Acts i ph s (s.conditionedChange n level) := by
  unfold State.conditionedChange
  dsimp only
  split
  · exact (s.modifySensor_acts n _).trans (State.sensorEdge_acts _ n reports)
  · exact s.modifySensor_acts n _

/-! ### Counts -/

theorem State.restartStandstill_position (s : State) :
    s.restartStandstill.clock.mode = s.clock.mode ∧ s.restartStandstill.clock.lag = s.clock.lag
    ∧ s.restartStandstill.clock.geometry = s.clock.geometry := by
  unfold State.restartStandstill
  split <;> exact ⟨rfl, rfl, rfl⟩

/-- R3: a reverse count below the tolerance. -/
theorem State.lagUp_acts (s : State) (below : s.clock.lag < s.clock.geometry.reverseTolerance) :
    Acts i ph s
      { s.restartStandstill with
        clock := { s.restartStandstill.clock with lag := s.restartStandstill.clock.lag + 1 } } := by
  refine s.restartStandstill_acts.trans (State.withClock_acts _ (.lag _ fun _ _ => ?_))
  obtain ⟨-, lag, geometry⟩ := s.restartStandstill_position
  rw [lag, geometry]
  exact below

/-- R3 and entry 10: above the tolerance the lag is free. -/
theorem State.lagFree_acts (s : State) (n : Nat) (above : s.clock.geometry.reverseTolerance < s.clock.lag) :
    Acts i ph s { s.restartStandstill with clock := { s.restartStandstill.clock with lag := n } } := by
  refine s.restartStandstill_acts.trans (State.withClock_acts _ (.lag _ fun _ within => ?_))
  obtain ⟨-, lag, geometry⟩ := s.restartStandstill_position
  rw [lag, geometry] at within
  exact absurd within (Nat.not_le.2 above)

end Sys2Proof.Machine
end

section
/-!
PROOF. The configuration writes as runs of acts, and then every command.
-/

namespace Sys2Proof.Machine

variable {i : Instr} {ph : Phase}

/-! ### Configuration writes -/

/-- A write of a geometry field other than N and E. -/
theorem State.setGeo_acts (s : State) (f : Geometry → Geometry) (mode : s.clock.mode = .setup)
    (write : i.isConfigWrite = true) (range : ∀ g : Geometry, g.inRange → (f g).inRange)
    (kept : ∀ g, (f g).clampCount = g.clampCount ∧ (f g).pitchCounts = g.pitchCounts ∧ (f g).capacity = g.capacity) :
    Acts i ph s (s.setGeo f) :=
  .single (.geometry f mode write range (fun g => ⟨(kept g).1, (kept g).2.1⟩) fun h => (kept _).2.2.symm ▸ h)

theorem bring_within {lo hi : Nat} (v : Int) (h : lo ≤ hi) : lo ≤ bring lo hi v ∧ bring lo hi v ≤ hi :=
  ⟨le_bring h, bring_le h⟩

theorem State.setGeometry_acts (s : State) (field : Byte) (v : Int) (write : i.isConfigWrite = true)
    (mode : s.clock.mode = .setup) : Acts i ph s (s.setGeometry field v).1 := by
  unfold State.setGeometry
  dsimp only
  split
  · split
    next empty =>
      have range := bring_within v (show 8 ≤ 32 by decide)
      exact .single (.clampCount _ mode write range.1 range.2 empty)
    next => exact .refl
  · have range := bring_within v (show 1024 ≤ 16384 by decide)
    exact .single (.pitchCounts _ mode write range.1 range.2)
  · dsimp only
    refine s.setGeo_acts _ mode write ?_ ?_
    · rintro g ⟨clamps, pitch, -, rest⟩
      exact ⟨clamps, pitch, bring_within v (by decide), rest⟩
    · exact fun g => ⟨rfl, rfl, rfl⟩
  · dsimp only
    refine s.setGeo_acts _ mode write ?_ ?_
    · exact fun g within => within
    · exact fun g => ⟨rfl, rfl, rfl⟩
  · dsimp only
    refine s.setGeo_acts _ mode write ?_ ?_
    · rintro g ⟨clamps, pitch, length, -, rest⟩
      exact ⟨clamps, pitch, length, bring_within v (by decide), rest⟩
    · exact fun g => ⟨rfl, rfl, rfl⟩
  · dsimp only
    refine s.setGeo_acts _ mode write ?_ ?_
    · rintro g ⟨clamps, pitch, length, home, -, rest⟩
      exact ⟨clamps, pitch, length, home, bring_within v (by decide), rest⟩
    · exact fun g => ⟨rfl, rfl, rfl⟩
  · split
    next => exact .refl
    next room =>
      refine .single (.geometry (fun g => { g with capacity := bring 1 48 v }) mode write ?_ (fun g => ⟨rfl, rfl⟩)
        fun _ => Nat.not_lt.1 room)
      rintro g ⟨clamps, pitch, length, home, reverse, -⟩
      exact ⟨clamps, pitch, length, home, reverse, bring_within v (by decide)⟩
  · split
    · dsimp only
      refine s.setGeo_acts _ mode write ?_ ?_
      · exact fun g within => within
      · exact fun g => ⟨rfl, rfl, rfl⟩
    · split
      · dsimp only
        refine s.setGeo_acts _ mode write ?_ ?_
        · exact fun g within => within
        · exact fun g => ⟨rfl, rfl, rfl⟩
      · exact .refl
  · exact .refl

theorem State.setStation_acts (s : State) (station d : Byte) (phase : Word16) (write : i.isConfigWrite = true) :
    Acts i ph s (s.setStation station d phase).1 := by
  unfold State.setStation
  split
  · exact .refl
  · exact s.withClock_acts (.stations _ write)

theorem State.setSensor_acts (s : State) (sensor edge debounce : Byte) :
    Acts i ph s (s.setSensor sensor edge debounce).1 := by
  unfold State.setSensor
  split
  · exact s.modifySensor_acts _ fun _ => _
  · exact .refl

theorem State.modifyCam_acts (s : State) (c : Fin 8) (f : CamChannel → CamChannel) (mode : s.clock.mode = .setup)
    (window : (f s.cams[c]).window = s.cams[c].window) : Acts i ph s (s.modifyCam c f) :=
  .single (.cams _ (.write c _ mode window))

theorem State.setCamWindow_acts (s : State) (channel field : Byte) (v : Int) (mode : s.clock.mode = .setup) :
    Acts i ph s (s.setCamWindow channel field v).1 := by
  unfold State.setCamWindow
  dsimp only
  split
  · exact .refl
  · split
    · split
      · exact .refl
      · dsimp only
        refine s.modifyCam_acts _ _ mode ?_
        rfl
    · split
      · exact .refl
      · dsimp only
        refine s.modifyCam_acts _ _ mode ?_
        rfl
    · split
      · dsimp only
        refine s.modifyCam_acts _ _ mode ?_
        rfl
      · exact .refl
    · exact .refl

theorem State.forceCam_acts (s : State) (channel onOff : Byte) (mode : s.clock.mode = .setup) :
    Acts i ph s (s.forceCam channel onOff).1 := by
  unfold State.forceCam
  split
  · dsimp only
    refine s.modifyCam_acts _ _ mode ?_
    rfl
  · exact .refl

theorem State.modifySetpoints_acts (s : State) (u : SetPointUnit) : Acts i ph s { s with setpoints := u } :=
  .single (.aside s.due u s.timers)

theorem State.setJobClass_acts (s : State) (cls field : Byte) (v : Int) :
    Acts i ph s (s.setJobClass cls field v).1 := by
  unfold State.setJobClass
  dsimp only
  split
  · exact .refl
  · split
    · split
      · exact s.modifySetpoints_acts _
      · exact .refl
    · split
      · exact s.modifySetpoints_acts _
      · exact .refl

theorem State.setGaugeCal_acts (s : State) (field : Byte) (v : Int) : Acts i ph s (s.setGaugeCal field v).1 := by
  unfold State.setGaugeCal
  split
  · split
    · exact s.modifySetpoints_acts _
    · split
      · exact s.modifySetpoints_acts _
      · exact .refl
  · exact s.modifySetpoints_acts _
  · exact s.modifySetpoints_acts _
  · exact s.modifySetpoints_acts _
  · exact .refl

/-- A write of a pot's settings keeps its state, its timers and its filtered value. -/
theorem State.writePot_acts (s : State) (id : PotId) {f : Pot → Pot}
    (kept : ∀ q : Pot, (f q).settle = q.settle ∧ (f q).heatUp = q.heatUp ∧ (f q).stale = q.stale
      ∧ (f q).state = q.state ∧ (f q).enabled = q.enabled ∧ (f q).filtered = q.filtered) :
    Acts i ph s (s.modifyPot id f) := by
  obtain ⟨settle, heatUp, stale, state, enabled, filtered⟩ := kept (s.glue.pot id)
  refine s.modifyPot_acts id (fun h => ⟨?_, ?_, ?_, ?_, ?_⟩) fun _ => enabled
  · rw [settle, state]; exact h.settle
  · rw [heatUp, state]; exact h.heatUp
  · rw [stale, state]; exact h.stale
  · rw [enabled, state]; exact h.disabled
  · rw [filtered]; exact h.filtered

theorem State.setGlue_acts (s : State) (pot field : Byte) (v : Int) : Acts i ph s (s.setGlue pot field v).1 := by
  unfold State.setGlue
  dsimp only
  split
  · exact .refl
  · split
    · dsimp only
      refine s.writePot_acts _ ?_
      exact fun q => ⟨rfl, rfl, rfl, rfl, rfl, rfl⟩
    · dsimp only
      refine s.writePot_acts _ ?_
      exact fun q => ⟨rfl, rfl, rfl, rfl, rfl, rfl⟩
    · dsimp only
      refine s.writePot_acts _ ?_
      exact fun q => ⟨rfl, rfl, rfl, rfl, rfl, rfl⟩
    · dsimp only
      refine s.writePot_acts _ ?_
      exact fun q => ⟨rfl, rfl, rfl, rfl, rfl, rfl⟩
    · dsimp only
      refine s.writePot_acts _ ?_
      exact fun q => ⟨rfl, rfl, rfl, rfl, rfl, rfl⟩
    · split
      · exact s.enableSide_acts _
      · exact .refl
      · exact .refl
    · exact .refl

theorem State.setTimers_acts (s : State) (field : Byte) (v : Int) : Acts i ph s (s.setTimers field v).1 := by
  unfold State.setTimers
  split
  · exact .single (.aside s.due s.setpoints _)
  · exact .refl

theorem State.modifyLimits_acts (s : State) (f : LiftLimits → LiftLimits) (empty : s.lifting.lifts = [])
    (count : 1 ≤ s.lifting.limits.maxCount → 1 ≤ (f s.lifting.limits).maxCount) :
    Acts i ph s (s.modifyLimits f) :=
  .single (.lifting _ _ (.limits _ empty count))

theorem State.setLiftLimits_acts (s : State) (field : Byte) (v : Int) : Acts i ph s (s.setLiftLimits field v).1 := by
  unfold State.setLiftLimits
  split
  · exact .refl
  next some_ =>
    have empty : s.lifting.lifts = [] := by simpa using some_
    split
    · dsimp only
      refine s.modifyLimits_acts _ empty ?_
      exact fun _ => le_bring (by decide)
    · dsimp only
      refine s.modifyLimits_acts _ empty ?_
      exact id
    · dsimp only
      refine s.modifyLimits_acts _ empty ?_
      exact id
    · exact .refl

/-! ### The ports -/

theorem Port.frameFailed_acts (s : State) (p : PortId) (state : FrameState) (code : Byte) :
    Acts i ph s (s.modifyPort p (Port.frameFailed s.now state code)) := by
  refine s.modifyPort_acts p _ rfl fun h => ?_
  simp only [Port.frameFailed, Port.raise, Port.finish, BitVec.getLsbD_or, h, Bool.true_or]

/-- R201: CLEAR ATTENTION is the one command that clears latches. -/
theorem State.clearLatches_acts (s : State) (p : PortId) (mask : Word16) (m : BitVec 9) :
    Acts (.clearAttention p mask) ph s (s.modifyPort p fun q => { q with latches := q.latches &&& ~~~m }) := by
  refine .single (.ports _ (fun q => ?_) (.inl ⟨p, mask, rfl⟩))
  have get := s.modifyPort_get p q fun q => { q with latches := q.latches &&& ~~~m }
  rw [State.modifyPort] at get
  rw [get]
  split
  next h => rw [h]
  next => rfl

theorem State.read_acts (s : State) (p : PortId) (frame : List Byte) (answer : State → List Byte) :
    Acts i ph s (s.read p frame answer) :=
  State.whenRunning_acts (s.modifyPort_acts p _ rfl id)

/-! ### Every command -/

/-- What is to be shown of a command: it ends, and in a run of acts within one phase. -/
def ActsThrough (i : Instr) (s : State) (answer : Answer) : Prop := ∃ t ph, answer = .next t ∧ Acts i ph s t

theorem ActsThrough.of_acts {s t : State} (acts : Acts i ph s t) : ActsThrough i s (.next t) := ⟨t, ph, rfl, acts⟩

theorem ActsThrough.of_command {s : State} {p : PortId} {code : Byte} {rights : Role → Bool} {subject : Nat}
    {body : State → State × Reply} (acts : Acts i ph s (body s).1) :
    ActsThrough i s (.next (s.command p code rights subject body)) :=
  .of_acts (State.command_acts acts)

theorem ActsThrough.of_configWrite {s : State} {p : PortId} {code : Byte} {subject : Nat}
    {body : State → State × Reply} (acts : s.clock.mode = .setup → Acts i ph s (body s).1) :
    ActsThrough i s (.next (s.configWrite p code subject body)) :=
  .of_acts (State.configWrite_acts acts)

theorem ActsThrough.of_whenRunning {s : State} {f : State → State} (acts : Acts i ph s (f s)) :
    ActsThrough i s (.next (s.whenRunning f)) :=
  .of_acts (State.whenRunning_acts acts)

variable (s : State)

theorem execTakeReject_acts (p : PortId) (stage : TakeStage) : ActsThrough i s (execTakeReject p stage s) := by
  refine .of_whenRunning (ph := .count) ?_
  cases stage with
  | wholeFrame n => exact (s.beginTake_acts p).trans (State.endTake_acts _ p n)
  | commandByte => exact s.beginTake_acts p
  | release n => exact s.endTake_acts p n

theorem execSetAttention_acts (p : PortId) (enables : Word16) (mode : Byte) :
    ActsThrough i s (execSetAttention p enables mode s) := by
  refine .of_command (ph := .count) ?_
  split
  · exact s.modifyPort_acts p _ rfl id
  · exact .refl

theorem execClearAttention_acts (p : PortId) (mask : Word16) :
    ActsThrough (.clearAttention p mask) s (execClearAttention p mask s) := by
  refine .of_command (ph := .count) ?_
  split
  · exact s.clearLatches_acts p mask _
  · exact .refl

theorem execStart_acts (p : PortId) : ActsThrough (.start p) s (execStart p s) := by
  refine .of_command (ph := .count) ?_
  split
  next mode =>
    split
    next => exact .refl
    next checked => exact .single (.mode _ (.homing mode checked) (by rw [mode]; rfl))
  next => exact .refl

theorem execHold_acts (p : PortId) : ActsThrough (.hold p) s (execHold p s) := by
  refine .of_command (ph := .count) ?_
  split
  next mode => exact s.enterHold_acts _ _ (.inl mode) (by rw [mode]; rfl)
  next mode => exact s.enterHold_acts _ _ (.inr mode) (by rw [mode]; rfl)
  next ret mode =>
    have kind : Acts (.hold p) .count s { s with clock := { s.clock with mode := .hold .commanded ret } } :=
      s.withClock_acts (.holdKind .commanded .standstill ret ret mode)
    exact kind.trans (State.withClock_acts _ (.marks s.clock.fired s.clock.homingTravel s.clock.pitchesSinceHome 0
      s.clock.sensors))
  all_goals exact .refl

theorem execResume_acts (p : PortId) : ActsThrough (.resume p) s (execResume p s) := by
  refine .of_command (ph := .count) ?_
  split
  next ret mode => exact s.returnFromHold_acts mode (by rintro m (rfl | rfl | rfl) <;> rfl)
  all_goals exact .refl

theorem execRunout_acts (p : PortId) : ActsThrough (.runout p) s (execRunout p s) := by
  refine .of_command (ph := .count) ?_
  split
  next mode =>
    dsimp only [modeTaken]
    split
    · exact s.enterSetup_acts (by rw [mode]; rfl) (by rw [mode]; rfl)
    · exact .single (.mode _ (.runout mode) (by rw [mode]; rfl))
  next kind ret mode => exact s.withClock_acts (.holdKind kind kind .runout ret mode)
  all_goals exact .refl

theorem execStop_acts (p : PortId) : ActsThrough (.stop p) s (execStop p s) := by
  refine .of_command (ph := .count) ?_
  split
  next stops =>
    obtain ⟨started, -⟩ := Bool.and_eq_true_iff.1 stops
    refine s.enterSetup_acts started ?_
    cases mode : s.clock.mode with
    | setup | halted => rw [mode] at started; contradiction
    | homing | run | hold kind ret | runout => rfl
  next => exact .refl

theorem execClearHalt_acts (p : PortId) : ActsThrough (.clearHalt p) s (execClearHalt p s) := by
  refine .of_command (ph := .count) ?_
  split
  next mode => exact .single (.mode _ (.cleared mode) (by rw [mode]; rfl))
  next => exact .refl

theorem execGlueReading_acts (p : PortId) (pot : Byte) (raw : Word16) :
    ActsThrough i s (execGlueReading p pot raw s) := by
  refine .of_command (ph := .count) ?_
  split
  · exact .refl
  · exact s.takeReading_acts _ _

theorem execClearGlueFault_acts (p : PortId) (pot : Byte) : ActsThrough i s (execClearGlueFault p pot s) := by
  refine .of_command (ph := .count) ?_
  split
  · exact .refl
  · split
    · exact s.changePot_unknown_acts _
    · exact .refl

theorem execResetDevice_acts (p : PortId) : ActsThrough i s (execResetDevice p s) := by
  refine .of_whenRunning (ph := .count) ?_
  split
  · exact .single (.reset .command)
  · exact s.finish_acts p _ _

theorem execCloseLift_acts (p : PortId) : ActsThrough i s (execCloseLift p s) := by
  refine .of_command (ph := .count) ?_
  split
  next => exact .refl
  next o isOpen => exact s.closeLift_acts (LiftBuilder.openLift_mem isOpen).1 (LiftBuilder.openLift_mem isOpen).2

theorem execFrameError_acts (p : PortId) (bytes : List Byte) (partialByte : Bool) :
    ActsThrough i s (execFrameError p bytes partialByte s) := by
  refine .of_whenRunning (ph := .count) ?_
  split
  · exact Port.frameFailed_acts s p _ _
  · exact .refl

theorem execFrameAbandon_acts (p : PortId) (bytes : List Byte) : ActsThrough i s (execFrameAbandon p bytes s) := by
  refine .of_whenRunning (ph := .count) ?_
  split
  · exact Port.frameFailed_acts s p _ _
  · exact .refl

theorem execReverseCount_acts : ActsThrough .reverseCount s (execReverseCount s) := by
  refine .of_whenRunning (ph := .count) ?_
  split
  · exact .refl
  · dsimp only
    split
    next below => exact s.lagUp_acts below
    next reached =>
      by_cases same : s.clock.lag = s.clock.geometry.reverseTolerance
      · simp only [same, if_true]
        split
        · exact s.restartStandstill_acts
        · exact s.restartStandstill_acts.trans (State.takeHaltCause_acts_of_halts _ rfl (by simp))
      · have above := Nat.lt_of_le_of_ne (Nat.not_lt.1 reached) (Ne.symm same)
        simp only [same, if_false]
        split
        · exact s.lagFree_acts _ above
        · exact (s.lagFree_acts _ above).trans (State.takeHaltCause_acts_of_halts _ rfl (by simp))

theorem execStandstillExpiry_acts : ActsThrough .standstillExpiry s (execStandstillExpiry s) := by
  refine .of_whenRunning (ph := .count) ?_
  split
  · split
    next mode => exact s.enterHold_acts _ _ (.inl mode) (by rw [mode]; rfl)
    next mode => exact s.enterHold_acts _ _ (.inr mode) (by rw [mode]; rfl)
    all_goals exact .refl
  · exact .refl

theorem execSensorRawChange_acts (n : Sensor) (level : Bool) :
    ActsThrough (.sensorRawChange n level) s (execSensorRawChange n level s) := by
  refine .of_whenRunning (ph := .count) ?_
  dsimp only
  split
  · exact .refl
  · refine (s.modifySensor_acts n fun c => { c with raw := level }).trans ?_
    split
    · exact State.modifySensor_acts _ n _
    · split
      · exact State.conditionedChange_acts _ n level (.inl ⟨level, rfl⟩)
      · exact State.modifySensor_acts _ n _

theorem execDebounceExpiry_acts (n : Sensor) : ActsThrough (.debounceExpiry n) s (execDebounceExpiry n s) := by
  refine .of_whenRunning (ph := .count) ?_
  dsimp only
  split
  · exact s.conditionedChange_acts n _ (.inr rfl)
  · exact .refl

theorem execSupplyDipStart_acts : ActsThrough i s (execSupplyDipStart s) := by
  refine .of_acts (ph := .count) ?_
  split
  · exact .single (.supply _)
  · exact .refl

theorem execSupplyEvent_acts : ActsThrough .supplyEvent s (execSupplyEvent s) := by
  refine .of_whenRunning (ph := .count) ?_
  split
  · exact .refl
  · exact .refl
  · refine (Relation.ReflTransGen.single (.supply (.dipping true))).trans ?_
    split
    · refine State.takeHaltCause_acts _ _ ?_
      rintro (started | ⟨mode, -⟩)
      · exact modeMove_halted rfl started
      · rw [mode]; rfl
    · exact .single (.reset .supply)

theorem execSealTimerExpiry_acts : ActsThrough i s (execSealTimerExpiry s) := by
  refine .of_whenRunning (ph := .count) ?_
  split
  · exact (s.withSealTimer_acts none).trans (State.sealOpenBook_acts _)
  · exact .refl

theorem execCamWindowEnd_acts (c : Fin 8) : ActsThrough i s (execCamWindowEnd c s) := by
  refine .of_whenRunning (ph := .count) ?_
  split
  · exact s.withWindow_acts c none (.inl rfl)
  · exact .refl

theorem execSettleExpiry_acts (id : PotId) : ActsThrough i s (execSettleExpiry id s) := by
  refine .of_whenRunning (ph := .count) ?_
  split
  next due =>
    refine s.enterPotState_acts id .ready fun sound => .inl (sound.enabled_of_ne ?_)
    simp [sound.settle.1 (isDue_isSome due)]
  next => exact .refl

theorem execHeatUpExpiry_acts (id : PotId) : ActsThrough i s (execHeatUpExpiry id s) := by
  refine .of_whenRunning (ph := .count) ?_
  split
  next due =>
    refine s.enterPotState_acts id .fault fun sound => .inl (sound.enabled_of_ne ?_)
    simp [sound.heatUp.1 (isDue_isSome due)]
  next => exact .refl

theorem execStaleExpiry_acts (id : PotId) : ActsThrough i s (execStaleExpiry id s) := by
  refine .of_whenRunning (ph := .count) ?_
  split
  · split
    · exact s.modifyPot_acts id (fun h => ⟨h.settle, h.heatUp, fun _ => rfl, h.disabled, h.filtered⟩) fun _ => rfl
    · exact s.enterPotState_acts id .unknown fun _ => .inr rfl
  · exact .refl

theorem execOpenTimeExpiry_acts (n : Word16) : ActsThrough i s (execOpenTimeExpiry n s) := by
  refine .of_whenRunning (ph := .count) ?_
  split
  · exact (s.stopOpenTime_acts _).trans (State.setCause_acts _ _ _)
  · exact .refl

theorem execCoolingExpiry_acts (n : Word16) : ActsThrough i s (execCoolingExpiry n s) := by
  refine .of_whenRunning (ph := .count) ?_
  split
  · exact .refl
  · split
    · dsimp only
      have ready : Acts i .count s (s.mapBook n.toNat fun b => { b with state := .ready }) :=
        s.mapBook_acts _ fun _ => .of_eq rfl rfl rfl
      split
      · exact ready.trans (State.offerDelivery_acts _)
      · exact ready
    · exact .refl

theorem execWindowTimerExpiry_acts : ActsThrough i s (execWindowTimerExpiry s) := by
  refine .of_whenRunning (ph := .count) ?_
  split
  next => exact .refl
  next o isOpen =>
    split
    · exact s.closeLift_acts (LiftBuilder.openLift_mem isOpen).1 (LiftBuilder.openLift_mem isOpen).2
    · exact .refl

theorem execTrimTimerExpiry_acts : ActsThrough i s (execTrimTimerExpiry s) := by
  refine .of_whenRunning (ph := .count) ?_
  split
  · exact .refl
  · split
    · exact (Relation.ReflTransGen.single (.lifting _ _ (.overdue _))).trans (State.raise_acts _ _)
    · exact .refl

theorem execAttnPulseEnd_acts (p : PortId) : ActsThrough i s (execAttnPulseEnd p s) := by
  refine .of_whenRunning (ph := .count) ?_
  split
  · exact s.modifyPort_acts p _ rfl id
  · exact .refl

theorem execLampFlashToggle_acts (lamp : LampId) :
    ActsThrough (.lampFlashToggle lamp) s (execLampFlashToggle lamp s) := by
  refine .of_whenRunning (ph := .count) ?_
  cases lamp <;> exact .single (.lamps _ _ ⟨_, rfl⟩)

/-- Every command but a forward count and the end of a reset is a run of acts within one phase. -/
theorem exec_acts (count : i ≠ .forwardCount) (resetEnd : ∀ sample, i ≠ .resetEnd sample) :
    ActsThrough i s (exec i s) := by
  cases i with
  | readIdent | readStatus | readResult | readAttention | readBook | readQueue | readLifts | readConfig | nextDue
  | nextLift | readRejects => exact .of_acts (ph := .count) (s.read_acts _ _ _)
  | readClampMap => exact .of_whenRunning (ph := .count) (s.modifyPort_acts _ _ rfl id)
  | takeReject => exact execTakeReject_acts s _ _
  | setAttention => exact execSetAttention_acts s _ _ _
  | clearAttention => exact execClearAttention_acts s _ _
  | announce => exact .of_command (s.announce_acts _ _)
  | caliper => exact .of_command (ph := .count) (s.caliper_acts _)
  | withdraw => exact .of_command (s.withdraw_acts _)
  | rejectBook => exact .of_command (ph := .count) (s.rejectBook_acts _)
  | start => exact execStart_acts s _
  | hold => exact execHold_acts s _
  | resume => exact execResume_acts s _
  | runout => exact execRunout_acts s _
  | stop => exact execStop_acts s _
  | clearHalt => exact execClearHalt_acts s _
  | resolveClampKeep | resolveClampRemove => exact .of_command (s.resolveClamp_acts _ _)
  | glueReading => exact execGlueReading_acts s _ _ _
  | clearGlueFault => exact execClearGlueFault_acts s _ _
  | resetDevice => exact execResetDevice_acts s _
  | coverSeen => exact .of_command (ph := .count) (s.coverSeen_acts _ _)
  | takeLift => exact .of_command (ph := .count) (s.takeLift_acts _)
  | cutDone => exact .of_command (s.cutDone_acts _ _)
  | closeLift => exact execCloseLift_acts s _
  | lockClamp | unlockClamp => exact .of_command (ph := .count) (s.setLock_acts _ _)
  | setGeometry => exact .of_configWrite (ph := .count) (s.setGeometry_acts _ _ rfl)
  | setStation => exact .of_configWrite (ph := .count) fun _ => s.setStation_acts _ _ _ rfl
  | setSensor => exact .of_configWrite (ph := .count) fun _ => s.setSensor_acts _ _ _
  | setCamWindow => exact .of_configWrite (ph := .count) (s.setCamWindow_acts _ _ _)
  | setJobClass => exact .of_configWrite (ph := .count) fun _ => s.setJobClass_acts _ _ _
  | setGaugeCal => exact .of_configWrite (ph := .count) fun _ => s.setGaugeCal_acts _ _
  | setGlue => exact .of_configWrite (ph := .count) fun _ => s.setGlue_acts _ _ _
  | setTimers => exact .of_configWrite (ph := .count) fun _ => s.setTimers_acts _ _
  | setLiftLimits => exact .of_configWrite (ph := .count) fun _ => s.setLiftLimits_acts _ _
  | forceCam => exact .of_configWrite (ph := .count) (s.forceCam_acts _ _)
  | frameError => exact execFrameError_acts s _ _ _
  | frameAbandon => exact execFrameAbandon_acts s _ _
  | forwardCount => contradiction
  | reverseCount => exact execReverseCount_acts s
  | homingTravelLimit => exact .of_whenRunning (ph := .count) (s.checkHomingTravel_acts rfl)
  | pitchesSinceHomeLimit => exact .of_whenRunning (ph := .count) (s.checkPitches_acts rfl)
  | standstillReturn =>
    exact .of_whenRunning (ph := .count) (s.checkStandstill_acts (by rintro m (rfl | rfl | rfl) <;> rfl))
  | standstillExpiry => exact execStandstillExpiry_acts s
  | sensorRawChange => exact execSensorRawChange_acts s _ _
  | debounceExpiry => exact execDebounceExpiry_acts s _
  | supplyDipStart => exact execSupplyDipStart_acts s
  | supplyReturn => exact .of_acts (ph := .count) (.single (.supply .clear))
  | supplyEvent => exact execSupplyEvent_acts s
  | powerOnReset => exact .of_acts (ph := .count) (.single (.reset .powerOn))
  | pinReset => exact .of_acts (ph := .count) (.single (.reset .pin))
  | resetEnd sample => exact absurd rfl (resetEnd sample)
  | sealTimerExpiry => exact execSealTimerExpiry_acts s
  | camWindowEnd => exact execCamWindowEnd_acts s _
  | settleExpiry => exact execSettleExpiry_acts s _
  | heatUpExpiry => exact execHeatUpExpiry_acts s _
  | staleExpiry => exact execStaleExpiry_acts s _
  | openTimeExpiry => exact execOpenTimeExpiry_acts s _
  | coolingExpiry => exact execCoolingExpiry_acts s _
  | windowTimerExpiry => exact execWindowTimerExpiry_acts s
  | trimTimerExpiry => exact execTrimTimerExpiry_acts s
  | attnPulseEnd => exact execAttnPulseEnd_acts s _
  | lampFlashToggle => exact execLampFlashToggle_acts s _
  | _ => -- SEAL, whose constructor shares its name with a keyword
    exact .of_command (ph := .count) s.sealCommand_acts

/-- R1: a forward count does nothing, takes up lag, or advances the high-water mark in three parts. -/
theorem exec_forwardCount_cases : ∃ t, exec .forwardCount s = .next t ∧ (t = s
    ∨ t = { s.restartStandstill with
        clock := { s.restartStandstill.clock with lag := s.restartStandstill.clock.lag - 1 } }
    ∨ (s.clock.mode ≠ .halted ∧ t = (s.counted.fireIfDue .infeed).outlet)) := by
  refine ⟨_, rfl, ?_⟩
  unfold State.whenRunning
  split
  · exact .inl rfl
  · dsimp only
    split
    next => exact .inl rfl
    next moving =>
      split
      · exact .inr (.inl rfl)
      · exact .inr (.inr ⟨moving, s.advance_parts⟩)

/-- A forward count as acts, in the order of their phases. -/
theorem exec_forwardCount_acts : ∃ u v t, exec .forwardCount s = .next t ∧ Acts .forwardCount .count s u
    ∧ Acts .forwardCount .intake u v ∧ Acts .forwardCount .outlet v t := by
  obtain ⟨t, h, rfl | rfl | ⟨-, rfl⟩⟩ := exec_forwardCount_cases s
  · exact ⟨_, _, _, h, .refl, .refl, .refl⟩
  · exact ⟨_, _, _, h, s.restartStandstill_acts.trans (State.withClock_acts _ .lagDown), .refl, .refl⟩
  · exact ⟨_, _, _, h, s.counted_acts, State.fireIfDue_infeed_acts _, State.outlet_acts _⟩

/-- R185: the end of a reset source: nothing, a source less, or the part after the reset. -/
theorem exec_resetEnd_cases (sample : ResetSample) : ∃ t, exec (.resetEnd sample) s = .next t ∧ (t = s
    ∨ (s.stoppage.held = true ∧ s.stoppage.asserted.erase sample.source ≠ []
      ∧ t = { s with stoppage := { s.stoppage with asserted := s.stoppage.asserted.erase sample.source } })
    ∨ t = s.afterReset sample) := by
  refine ⟨_, rfl, ?_⟩
  dsimp only
  split
  next ends =>
    split
    next => exact .inr (.inr rfl)
    next rest => exact .inr (.inl ⟨(Bool.and_eq_true_iff.1 ends).1, rest, rfl⟩)
  next => exact .inl rfl

end Sys2Proof.Machine
end

section
/-!
PROOF. What every step keeps, shown act by act: the way from acts to steps, reject causes (R43), and the filling of
clamps (R87).
-/

namespace Sys2Proof.Machine

variable {i : Instr} {ph : Phase}

/-! ### From acts to steps -/

/-- Settles O1: a step's own equation. -/
theorem stepRunsFrontCommand : Obligations.StepRunsFrontCommand := by
  unfold Obligations.StepRunsFrontCommand
  intro c rest s front
  rw [step, front]

/-- A step is a command, a line event or an idle millisecond. -/
theorem step_cases {s t : State} (h : step s = .next t) :
    (∃ i rest, exec i { s with pending := rest } = .next t)
    ∨ (∃ p e rest, t = ({ s with arriving := rest } : State).takeWire p e) ∨ t = s.idle := by
  unfold step at h
  split at h
  next command rest _ => exact .inl ⟨command, rest, h⟩
  next =>
    split at h
    next p e rest _ => exact .inr (.inl ⟨p, e, rest, by injection h with h; exact h.symm⟩)
    next => exact .inr (.inr (by injection h with h; exact h.symm))

theorem Acts.keeps {P : State → Prop} (act : ∀ {s t}, Act i ph s t → P s → P t) {s t : State} (acts : Acts i ph s t)
    (h : P s) : P t := by
  induction acts with
  | refl => exact h
  | tail _ step ih => exact act step ih

/-- What every act keeps, every command but the end of a reset keeps. -/
theorem exec_keeps {P : State → Prop} (act : ∀ {ph s t}, Act i ph s t → P s → P t)
    (resetEnd : ∀ sample, i ≠ .resetEnd sample) {s t : State} (h : exec i s = .next t) (before : P s) : P t := by
  by_cases count : i = .forwardCount
  · subst count
    obtain ⟨u, v, t', h', su, uv, vt⟩ := exec_forwardCount_acts s
    obtain rfl : t' = t := Host.Outcome.next.inj (h'.symm.trans h)
    exact vt.keeps act (uv.keeps act (su.keeps act before))
  · obtain ⟨t', ph, h', acts⟩ := exec_acts s count resetEnd
    obtain rfl : t' = t := Host.Outcome.next.inj (h'.symm.trans h)
    exact acts.keeps act before

/-- An invariant of every step, from its parts: the acts, the end of a reset source, the reset values, the queues of
commands and line events, the lines of the ports, and the time. -/
theorem step_keeps {P : State → Prop} (act : ∀ {i ph s t}, Act i ph s t → P s → P t)
    (source : ∀ (s : State) rest, s.stoppage.held = true → rest ≠ [] → P s →
      P { s with stoppage := { s.stoppage with asserted := rest } })
    (reset : ∀ (s : State) sample, P (s.afterReset sample))
    (queue : ∀ (s : State) rest, P s → P { s with pending := rest })
    (wire : ∀ (s : State) p e rest, P s → P (({ s with arriving := rest } : State).takeWire p e))
    (idle : ∀ s : State, P s → P s.idle) {s t : State} (before : P s) (h : step s = .next t) : P t := by
  obtain ⟨i, rest, h⟩ | ⟨p, e, rest, rfl⟩ | rfl := step_cases h
  · by_cases resetEnd : ∀ sample, i ≠ .resetEnd sample
    · exact exec_keeps act resetEnd h (queue s rest before)
    · simp only [ne_eq, not_forall, not_not] at resetEnd
      obtain ⟨sample, rfl⟩ := resetEnd
      obtain ⟨t', h', rfl | ⟨held, rest, rfl⟩ | rfl⟩ := exec_resetEnd_cases { s with pending := rest } sample
      all_goals obtain rfl := Host.Outcome.next.inj (h'.symm.trans h)
      · exact queue s _ before
      · exact source _ _ held rest (queue s _ before)
      · exact reset _ sample
  · exact wire s p e rest before
  · exact idle s before

/-! ### Reject causes (R43) -/

theorem Book.Becomes.trans {a b c : Book} (ab : a.Becomes b) (bc : b.Becomes c) : a.Becomes c :=
  ⟨bc.serial.trans ab.serial, fun x h => bc.cause x (ab.cause x h), fun h => bc.samples (ab.samples h)⟩

/-- Every record that stood in a slot stands there still, under its serial and with its cause. -/
def BookTable.KeepsRecords (t t' : BookTable) : Prop :=
  ∀ (n : Fin Config.slotCount) (b : Book), t.slots[n] = some b → ∃ b', t'.slots[n] = some b' ∧ b.Becomes b'

/-- Every record that stands in a slot stood there before. -/
def BookTable.AddsNoRecord (t t' : BookTable) : Prop :=
  ∀ (n : Fin Config.slotCount) (b' : Book), t'.slots[n] = some b' → ∃ b, t.slots[n] = some b ∧ b.Becomes b'

theorem BookTable.KeepsRecords.of_slots {t t' : BookTable} (h : t'.slots = t.slots) : t.KeepsRecords t' :=
  fun n b at_ => ⟨b, by rw [h]; exact at_, .refl b⟩

theorem BookTable.AddsNoRecord.of_slots {t t' : BookTable} (h : t'.slots = t.slots) : t.AddsNoRecord t' :=
  fun n b at_ => ⟨b, by rw [← h]; exact at_, .refl b⟩

/-- A record is placed in a free slot. -/
theorem placeBook_of_some {slots : Vector (Option Book) Config.slotCount} {n : Fin Config.slotCount} {b : Book}
    (x : Book) (h : slots[n] = some b) : (placeBook slots x)[n] = some b := by
  unfold placeBook
  split
  next m found =>
    have free : slots[m].isNone = true := List.find?_some (p := fun i : Fin Config.slotCount => slots[i].isNone) found
    have other : (m : Nat) ≠ n := by
      intro same
      rw [Fin.ext same, h] at free
      contradiction
    simpa [Vector.getElem_set, other] using h
  next => exact h

theorem BookAct.keepsRecords {t t' : BookTable} (act : BookAct ph t t') (notOut : ph ≠ .outlet) :
    t.KeepsRecords t' := by
  cases act with
  | records f becomes => exact fun n b at_ => ⟨f b, by simpa using congrArg (Option.map f) at_, becomes b⟩
  | place x intake serial samples => exact fun n b at_ => ⟨b, placeBook_of_some x at_, .refl b⟩
  | free n outlet => exact absurd outlet notOut
  | queue | append | take | counters => exact .of_slots rfl

theorem BookAct.addsNoRecord {t t' : BookTable} (act : BookAct ph t t') (notIn : ph ≠ .intake) :
    t.AddsNoRecord t' := by
  cases act with
  | records f becomes =>
    intro n b' at_
    obtain ⟨b, before, rfl⟩ : ∃ b, t.slots[n] = some b ∧ f b = b' := by simpa using at_
    exact ⟨b, before, becomes b⟩
  | place x intake serial samples => exact absurd intake notIn
  | free m outlet =>
    intro n b' at_
    obtain ⟨at_, -⟩ : t.slots[n] = some b' ∧ b'.serial ≠ m := by simpa using at_
    exact ⟨b', at_, .refl b'⟩
  | queue | append | take | counters => exact .of_slots rfl

theorem ModeAct.books {s t : State} (act : ModeAct s t) : t.books = s.books := by
  cases act with
  | homing | home | hold | runout | setup | cleared | halted => rfl
  | back kind ret mode => exact (s.returnFromHold_frame ret).2.2.1

theorem State.beginReset_books (s : State) (cause : ResetCause) : (s.beginReset cause).books = s.books := by
  unfold State.beginReset
  split
  · simp
  · rfl

/-- An act changes the Book Table as a `BookAct`, or not at all. -/
theorem Act.books_cases {s t : State} (act : Act i ph s t) : BookAct ph s.books t.books ∨ t.books = s.books := by
  cases act with
  | books t act => exact .inl act
  | mode t act => exact .inr act.books
  | reset cause => exact .inr (s.beginReset_books cause)
  | ports | clock | cams | aside | carousel | glue | lifting | supply | lamps | further | geometry | clampCount
  | pitchCounts | fill | empty | deliver => exact .inr rfl

theorem Acts.keepsRecords {s t : State} (acts : Acts i ph s t) (notOut : ph ≠ .outlet) :
    s.books.KeepsRecords t.books := by
  induction acts with
  | refl => exact .of_slots rfl
  | tail _ act ih =>
    obtain act | same := act.books_cases
    · intro n b at_
      obtain ⟨b', at', becomes⟩ := ih n b at_
      obtain ⟨b'', at'', becomes'⟩ := act.keepsRecords notOut n b' at'
      exact ⟨b'', at'', becomes.trans becomes'⟩
    · rw [same]; exact ih

theorem Acts.addsNoRecord {s t : State} (acts : Acts i ph s t) (notIn : ph ≠ .intake) :
    s.books.AddsNoRecord t.books := by
  induction acts with
  | refl => exact .of_slots rfl
  | tail _ act ih =>
    obtain act | same := act.books_cases
    · intro n b at_
      obtain ⟨b', at', becomes⟩ := act.addsNoRecord notIn n b at_
      obtain ⟨b'', at'', becomes'⟩ := ih n b' at'
      exact ⟨b'', at'', becomes'.trans becomes⟩
    · rw [same]; exact ih

/-- R43: the record of a slot leaves it or keeps its serial and its cause. -/
def BookTable.KeepsCauses (t t' : BookTable) : Prop :=
  ∀ (n : Fin Config.slotCount) (b b' : Book), t.slots[n] = some b → t'.slots[n] = some b' → b.Becomes b'

theorem BookTable.KeepsRecords.keepsCauses {t u v : BookTable} (tu : t.KeepsRecords u) (uv : u.AddsNoRecord v) :
    t.KeepsCauses v := by
  intro n b b' before after
  obtain ⟨x, at_, becomes⟩ := tu n b before
  obtain ⟨y, at', becomes'⟩ := uv n b' after
  obtain rfl : x = y := Option.some.inj (at_.symm.trans at')
  exact becomes.trans becomes'

theorem exec_keepsCauses {s t : State} (h : exec i s = .next t) : s.books.KeepsCauses t.books := by
  by_cases count : i = .forwardCount
  · subst count
    obtain ⟨u, v, t', h', su, uv, vt⟩ := exec_forwardCount_acts s
    obtain rfl : t' = t := Host.Outcome.next.inj (h'.symm.trans h)
    intro n b b' before after
    obtain ⟨x, at_, becomes⟩ := su.keepsRecords (by simp) n b before
    exact becomes.trans ((uv.keepsRecords (by simp)).keepsCauses (vt.addsNoRecord (by simp)) n x b' at_ after)
  by_cases resetEnd : ∀ sample, i ≠ .resetEnd sample
  · obtain ⟨t', ph, h', acts⟩ := exec_acts s count resetEnd
    obtain rfl : t' = t := Host.Outcome.next.inj (h'.symm.trans h)
    by_cases intake : ph = .intake
    · exact (acts.keepsRecords (by simp [intake])).keepsCauses (.of_slots rfl)
    · exact BookTable.KeepsRecords.keepsCauses (.of_slots rfl) (acts.addsNoRecord intake)
  · simp only [ne_eq, not_forall, not_not] at resetEnd
    obtain ⟨sample, rfl⟩ := resetEnd
    obtain ⟨t', h', same | ⟨-, -, same⟩ | same⟩ := exec_resetEnd_cases s sample
    all_goals
      rw [← Host.Outcome.next.inj (h'.symm.trans h), same]
      intro n b b' before after
    · exact (Option.some.inj (before.symm.trans after)) ▸ .refl b
    · exact (Option.some.inj (before.symm.trans after)) ▸ .refl b
    · simp [State.afterReset, State.reset, BookTable.afterReset] at after

/-- Settles O19: the acts of a command keep the records until the outlet and add none in it. -/
theorem aRejectCauseStays : Obligations.ARejectCauseStays := by
  unfold Obligations.ARejectCauseStays
  intro s t h n b b' cause before after carries
  have becomes : b.Becomes b' := by
    obtain ⟨i, rest, h⟩ | ⟨p, e, rest, rfl⟩ | rfl := step_cases h
    · exact exec_keepsCauses h n b b' before after
    · simp only [State.takeWire_frame] at after
      exact (Option.some.inj (before.symm.trans after)) ▸ .refl b
    · exact (Option.some.inj (before.symm.trans after)) ▸ .refl b
  exact ⟨becomes.serial, becomes.cause cause carries⟩

end Sys2Proof.Machine
end

section
/-!
PROOF. Where clamps are filled (R87), and who changes a role (R194).
-/

namespace Sys2Proof.Machine

variable {i : Instr} {ph : Phase}

/-! ### Filling a clamp -/

/-- No empty clamp holds a book afterwards. -/
def Carousel.FillsNone (c c' : Carousel) : Prop := ∀ clamp, c.bookIn clamp = none → c'.bookIn clamp = none

theorem Carousel.FillsNone.of_map {c c' : Carousel} (h : c'.clampMap = c.clampMap) : c.FillsNone c' :=
  fun clamp empty => by unfold Carousel.bookIn at empty ⊢; rw [h]; exact empty

theorem Carousel.FillsNone.trans {a b c : Carousel} (ab : a.FillsNone b) (bc : b.FillsNone c) : a.FillsNone c :=
  fun clamp empty => bc clamp (ab clamp empty)

/-- R80: the entry of a clamp after one entry has been written. -/
theorem getElem?_set_join (l : List (Option Nat)) (clamp other : Nat) (x : Option Nat) :
    (l.set clamp x)[other]?.join = if clamp = other ∧ clamp < l.length then x else l[other]?.join := by
  rw [List.getElem?_set]
  by_cases same : clamp = other
  · subst same
    by_cases inside : clamp < l.length
    · simp [inside]
    · simp [inside]
  · simp [same]

theorem Carousel.fillsNone_empty (c : Carousel) (clamp : Nat) :
    c.FillsNone { c with clampMap := c.clampMap.set clamp none } := by
  intro other empty
  show ((c.clampMap.set clamp none)[other]?).join = none
  rw [getElem?_set_join]
  split
  · rfl
  · exact empty

theorem join_replicate_none (n other : Nat) : (List.replicate n (none : Option Nat))[other]?.join = none := by
  rw [List.getElem?_replicate]
  split <;> rfl

theorem ModeAct.clampMap {s t : State} (act : ModeAct s t) : t.carousel.clampMap = s.carousel.clampMap := by
  cases act with
  | homing | home | hold | runout | setup | cleared | halted => rfl
  | back kind ret mode => simp

theorem State.beginReset_carousel (s : State) (cause : ResetCause) :
    (s.beginReset cause).carousel = s.carousel := by
  unfold State.beginReset
  split
  · simp
  · rfl

/-- R87: a clamp is filled in the intake of a forward count alone. -/
theorem Act.fillsNone {s t : State} (act : Act i ph s t) (other : i ≠ .forwardCount ∨ ph ≠ .intake) :
    s.carousel.FillsNone t.carousel := by
  cases act with
  | mode t act => exact .of_map act.clampMap
  | reset cause => exact .of_map (congrArg Carousel.clampMap (s.beginReset_carousel cause))
  | clampCount n => exact fun clamp _ => join_replicate_none n clamp
  | fill clamp n count intake => exact absurd intake (other.resolve_left fun h => h count)
  | empty clamp => exact s.carousel.fillsNone_empty clamp
  | deliver clamp => exact s.carousel.fillsNone_empty clamp
  | ports | books | clock | cams | aside | carousel | glue | lifting | supply | lamps | further | geometry
  | pitchCounts => exact .of_map rfl

theorem Acts.fillsNone {s t : State} (acts : Acts i ph s t) (other : i ≠ .forwardCount ∨ ph ≠ .intake) :
    s.carousel.FillsNone t.carousel := by
  induction acts with
  | refl => exact .of_map rfl
  | tail _ act ih => exact ih.trans (act.fillsNone other)

theorem exec_fillsNone {s t : State} (other : i ≠ .forwardCount) (h : exec i s = .next t) :
    s.carousel.FillsNone t.carousel := by
  by_cases resetEnd : ∀ sample, i ≠ .resetEnd sample
  · obtain ⟨t', ph, h', acts⟩ := exec_acts s other resetEnd
    obtain rfl : t' = t := Host.Outcome.next.inj (h'.symm.trans h)
    exact acts.fillsNone (.inl other)
  · simp only [ne_eq, not_forall, not_not] at resetEnd
    obtain ⟨sample, rfl⟩ := resetEnd
    obtain ⟨t', h', same | ⟨-, -, same⟩ | same⟩ := exec_resetEnd_cases s sample
    all_goals rw [← Host.Outcome.next.inj (h'.symm.trans h), same]
    · exact .of_map rfl
    · exact .of_map rfl
    · exact fun clamp _ => join_replicate_none 24 clamp

/-! ### The clamp at a station -/

/-- R10: the clamps stand at the same stations. -/
def PitchClock.SamePlace (c c' : PitchClock) : Prop :=
  c'.clampIndex = c.clampIndex ∧ c'.stations = c.stations ∧ c'.geometry = c.geometry

theorem PitchClock.SamePlace.refl (c : PitchClock) : c.SamePlace c := ⟨rfl, rfl, rfl⟩

theorem PitchClock.SamePlace.trans {a b c : PitchClock} (ab : a.SamePlace b) (bc : b.SamePlace c) : a.SamePlace c :=
  ⟨bc.1.trans ab.1, bc.2.1.trans ab.2.1, bc.2.2.trans ab.2.2⟩

theorem PitchClock.SamePlace.clampAt {c c' : PitchClock} (same : c.SamePlace c') (st : Station) :
    c'.clampAt st = c.clampAt st := by
  obtain ⟨index, stations, geometry⟩ := same
  unfold PitchClock.clampAt
  rw [index, stations, geometry]

theorem State.returnFromHold_samePlace (s : State) (ret : ReturnMode) :
    s.clock.SamePlace (s.returnFromHold ret).clock := by
  unfold State.returnFromHold
  split
  · exact .refl _
  · split <;> exact .refl _

theorem State.beginReset_clock (s : State) (cause : ResetCause) : (s.beginReset cause).clock = s.clock := by
  unfold State.beginReset
  split
  · simp
  · rfl

/-- R2, R8, R10: once a forward count has moved the mark, the clamps stay at their stations. -/
theorem Act.samePlace {s t : State} (act : Act .forwardCount ph s t) (moved : ph ≠ .count) :
    s.clock.SamePlace t.clock := by
  cases act with
  | clock c act =>
    cases act with
    | advance count => exact absurd count moved
    | stations places write => contradiction
    | lag | lagDown | marks | restart | holdKind => exact .refl _
  | mode t act move =>
    cases act with
    | home mode => rw [mode] at move; contradiction
    | back kind ret => exact s.returnFromHold_samePlace ret
    | homing | hold | runout | setup | cleared | halted => exact .refl _
  | reset cause => rw [State.beginReset_clock]; exact .refl _
  | geometry f mode write => contradiction
  | clampCount n mode write => contradiction
  | pitchCounts e mode write => contradiction
  | ports | books | cams | aside | carousel | glue | lifting | supply | lamps | further | fill | empty | deliver =>
    exact .refl _

theorem Acts.samePlace {s t : State} (acts : Acts .forwardCount ph s t) (moved : ph ≠ .count) :
    s.clock.SamePlace t.clock := by
  induction acts with
  | refl => exact .refl _
  | tail _ act ih => exact ih.trans (act.samePlace moved)

/-! ### Admission -/

theorem PitchClock.advance_mode (c : PitchClock) : c.advance.mode = c.mode := by
  unfold PitchClock.advance
  split <;> rfl

theorem PitchClock.advance_geometry (c : PitchClock) : c.advance.geometry = c.geometry := by
  unfold PitchClock.advance
  split <;> rfl

/-- A count that leaves the line in RUN has left everything an admission is tested on as it was. -/
theorem State.counted_of_run {s : State} (mode : s.counted.clock.mode = .run) :
    s.clock.mode = .run ∧ s.counted.carousel = s.carousel ∧ s.counted.occupancy = s.occupancy
    ∧ s.counted.clock.geometry = s.clock.geometry ∧ s.counted.glue = s.glue := by
  have halts (t : State) (cause : HaltCause) (fires : t.clock.mode.stationsFire = true) :
      (t.takeHaltCause cause).clock.mode = .halted := by
    rw [State.takeHaltCause_of_started (LineMode.started_of_stationsFire fires)]
    rfl
  have advanced : s.restartStandstill.clock.advance.mode = s.clock.mode
      ∧ s.restartStandstill.clock.advance.geometry = s.clock.geometry := by
    obtain ⟨mode, -, geometry⟩ := s.restartStandstill_position
    exact ⟨(PitchClock.advance_mode _).trans mode, (PitchClock.advance_geometry _).trans geometry⟩
  have same : s.counted = { s.restartStandstill with
      clock := s.restartStandstill.clock.advance, cams := s.cams.map CamChannel.advance } := by
    unfold State.counted State.checkPitches at mode ⊢
    split at mode
    next reached =>
      rw [halts _ _ (Bool.and_eq_true_iff.1 reached).1] at mode
      contradiction
    next notReached => rw [if_neg notReached]
  have restart : s.restartStandstill.carousel = s.carousel ∧ s.restartStandstill.delivery = s.delivery
      ∧ s.restartStandstill.lifting = s.lifting ∧ s.restartStandstill.glue = s.glue := by
    unfold State.restartStandstill
    split <;> exact ⟨rfl, rfl, rfl, rfl⟩
  rw [same] at mode ⊢
  obtain ⟨carousel, delivery, lifting, glue⟩ := restart
  refine ⟨advanced.1.symm.trans mode, carousel, ?_, advanced.2, glue⟩
  simp only [State.occupancy, carousel, delivery, lifting]

theorem State.admitBlock_clampMap (s : State) (clamp : Nat) :
    (s.admitBlock clamp).carousel.clampMap = s.carousel.clampMap.set clamp (some s.supplyBook.2) := by
  simp [State.admitBlock]

/-- R87: a clamp that the Infeed event fills is the one at the infeed, and its conditions hold. -/
theorem State.fireIfDue_infeed_fills {s : State} {clamp : Nat} (before : s.carousel.bookIn clamp = none)
    (after : (s.fireIfDue .infeed).carousel.bookIn clamp ≠ none) :
    clamp = s.clock.clampAt .infeed ∧ s.admissionHolds clamp = true := by
  obtain ⟨-, h⟩ | h := s.fireIfDue_cases .infeed
  · rw [h, State.fireStation_infeed] at after
    unfold State.infeedEvent at after
    split at after
    next holds =>
      unfold Carousel.bookIn at before after
      rw [State.admitBlock_clampMap, getElem?_set_join] at after
      split at after
      next same =>
        obtain ⟨rfl, -⟩ := same
        exact ⟨rfl, holds⟩
      next => exact absurd before after
    next => exact absurd before after
  · rw [h] at after
    exact absurd before after

/-- Settles O25: of the acts one alone fills a clamp, the admission of a forward count. -/
theorem admissionOnlyUnderItsConditions : Obligations.AdmissionOnlyUnderItsConditions := by
  unfold Obligations.AdmissionOnlyUnderItsConditions
  intro i s t clamp h before after
  by_cases count : i = .forwardCount
  · subst count
    refine ⟨rfl, ?_⟩
    obtain ⟨t', h', same | same | ⟨-, same⟩⟩ := exec_forwardCount_cases s
    all_goals rw [← Host.Outcome.next.inj (h'.symm.trans h), same] at after ⊢
    · exact absurd before after
    · have lagDown : Acts .forwardCount .count s { s.restartStandstill with
          clock := { s.restartStandstill.clock with lag := s.restartStandstill.clock.lag - 1 } } :=
        s.restartStandstill_acts.trans (State.withClock_acts _ .lagDown)
      exact absurd (lagDown.fillsNone (.inr (by simp)) clamp before) after
    · have atCount := s.counted_acts.fillsNone (.inr (by simp)) clamp before
      have filled : (s.counted.fireIfDue .infeed).carousel.bookIn clamp ≠ none := fun empty =>
        after ((State.outlet_acts _).fillsNone (.inr (by simp)) clamp empty)
      obtain ⟨atInfeed, holds⟩ := State.fireIfDue_infeed_fills atCount filled
      obtain ⟨mode, -, locked, presence, room, spine, side⟩ := State.admissionHolds_iff.1 holds
      obtain ⟨mode, carousel, occupancy, geometry, glue⟩ := State.counted_of_run mode
      rw [carousel] at locked presence
      rw [occupancy, geometry] at room
      rw [glue] at spine side
      have place := (State.fireIfDue_infeed_acts s.counted).samePlace (by simp) |>.trans
        ((State.outlet_acts _).samePlace (by simp))
      exact ⟨mode, locked, presence, room, spine, side, atInfeed.trans (place.clampAt .infeed).symm⟩
  · exact absurd (exec_fillsNone count h clamp before) after

/-! ### Roles -/

theorem State.raise_role (s : State) (cause : Attention) (p : PortId) :
    (s.raise cause).ports[p].role = s.ports[p].role := by
  rw [State.raise_get]; rfl

theorem State.enterMode_role (s : State) (m : LineMode) (p : PortId) :
    (s.enterMode m).ports[p].role = s.ports[p].role := State.raise_role _ _ p

theorem State.beginReset_role (s : State) (cause : ResetCause) (p : PortId) :
    (s.beginReset cause).ports[p].role = s.ports[p].role := by
  unfold State.beginReset
  split
  · simp
  · simp

theorem ModeAct.role {s t : State} (act : ModeAct s t) (p : PortId) : t.ports[p].role = s.ports[p].role := by
  cases act with
  | homing | home | hold | runout | setup | cleared | halted => exact State.enterMode_role _ _ p
  | back kind ret mode =>
    unfold State.returnFromHold
    split
    · exact State.enterMode_role _ _ p
    · split <;> exact State.enterMode_role _ _ p

/-- R194: no act changes a role. -/
theorem Act.role {s t : State} (act : Act i ph s t) (p : PortId) : t.ports[p].role = s.ports[p].role := by
  cases act with
  | ports ps roles => exact roles p
  | mode t act => exact act.role p
  | reset cause => exact s.beginReset_role cause p
  | books | clock | cams | aside | carousel | glue | lifting | supply | lamps | further | geometry | clampCount
  | pitchCounts | fill | empty | deliver => rfl

/-- R194: a port straps its role, unless a lower-numbered port straps the same. -/
theorem roleOf_eq (straps : Vector Straps 4) (p : PortId) :
    roleOf straps p = if ∃ q : PortId, q < p ∧ straps[q] = straps[p] then .observer else strapRole straps[p] := by
  unfold roleOf
  simp only [List.any_eq_true, List.mem_finRange, true_and, Bool.and_eq_true, decide_eq_true_eq, beq_iff_eq]

/-- Settles O6: roles come from the straps, and no act changes one. -/
theorem rolesAreTakenAtResetEndOnly : Obligations.RolesAreTakenAtResetEndOnly := by
  unfold Obligations.RolesAreTakenAtResetEndOnly
  refine ⟨fun straps p => ⟨fun strapped => ?_, fun free => ?_⟩, fun i s t resetEnd h p => ?_⟩
  · rw [roleOf_eq, if_pos strapped]
  · rw [roleOf_eq, if_neg (by rintro ⟨q, lower, same⟩; exact free q lower same)]
    obtain ⟨a, b⟩ := straps[p]
    cases a <;> cases b <;> rfl
  · exact exec_keeps (P := fun u => u.ports[p].role = s.ports[p].role)
      (fun act before => (act.role p).trans before) resetEnd h rfl

end Sys2Proof.Machine
end

section
/-!
PROOF. The changes of line mode (R19), what they show at the ports and the lamps (R26, R188), and the suspects of a halt
(R180).
-/

namespace Sys2Proof.Machine

variable {i : Instr} {ph : Phase}

/-! ### The table of R19 -/

/-- The names of the line modes. -/
def ModeName.all : List ModeName := [.setup, .homing, .run, .hold, .runout, .halted]

theorem ModeName.mem_all (m : ModeName) : m ∈ ModeName.all := by cases m <;> decide

/-- Two moves of one command are a move of it, or lead back. -/
def movesCompose (i : Instr) : Bool :=
  ModeName.all.all fun a => ModeName.all.all fun b => ModeName.all.all fun c =>
    !(modeMove i a b && modeMove i b c) || (a == c || modeMove i a c)

theorem movesCompose_eq_true (i : Instr) : movesCompose i = true := by
  cases i with
  | sensorRawChange n level => cases n <;> rfl
  | debounceExpiry n => cases n <;> rfl
  | _ => rfl

theorem modeMove_trans {a b c : ModeName} (ab : modeMove i a b = true) (bc : modeMove i b c = true) :
    a = c ∨ modeMove i a c = true := by
  have composed := movesCompose_eq_true i
  simp only [movesCompose, List.all_eq_true] at composed
  simpa [ab, bc] using composed a a.mem_all b b.mem_all c c.mem_all

/-- The line mode has kept its name, or moved as the table gives it for the command. -/
def NameMoves (i : Instr) (a b : ModeName) : Prop := a = b ∨ modeMove i a b = true

theorem NameMoves.trans {a b c : ModeName} (ab : NameMoves i a b) (bc : NameMoves i b c) : NameMoves i a c := by
  obtain rfl | ab := ab
  · exact bc
  obtain rfl | bc := bc
  · exact .inr ab
  exact modeMove_trans ab bc

theorem ClockAct.name {c c' : PitchClock} (act : ClockAct i ph c c') : c'.mode.name = c.mode.name := by
  cases act with
  | holdKind kind kind' ret ret' mode => rw [mode]; rfl
  | advance => unfold PitchClock.advance; split <;> rfl
  | lag | lagDown | marks | stations | restart => rfl

/-- R19: an act other than a change of line mode keeps its name. -/
theorem Act.nameMoves {s t : State} (act : Act i ph s t) : NameMoves i s.clock.mode.name t.clock.mode.name := by
  cases act with
  | mode t act move => exact .inr move
  | clock c act => exact .inl act.name.symm
  | reset cause => exact .inl (by rw [State.beginReset_clock])
  | ports | books | cams | aside | carousel | glue | lifting | supply | lamps | further | geometry | clampCount
  | pitchCounts | fill | empty | deliver => exact .inl rfl

/-- R19: every change of line mode within a command is one of the table. -/
theorem exec_nameMoves {s t : State} (resetEnd : ∀ sample, i ≠ .resetEnd sample) (h : exec i s = .next t) :
    NameMoves i s.clock.mode.name t.clock.mode.name :=
  exec_keeps (P := fun u => NameMoves i s.clock.mode.name u.clock.mode.name)
    (fun act before => before.trans act.nameMoves) resetEnd h (.inl rfl)

/-! ### MODE and the lamps -/

/-- R26 and R188: MODE is latched at every port, and the lamps are at the beginning of the mode's pattern. -/
structure State.ShowsMode (s : State) : Prop where
  latched : ∀ p : PortId, s.ports[p].latches.getLsbD 7 = true
  lampA : s.stoppage.lampA = (lampPattern s.clock.mode.name .a).begin s.now
  lampB : s.stoppage.lampB = (lampPattern s.clock.mode.name .b).begin s.now

/-- The name of the line mode, the time, the lamps and the MODE latches are kept. -/
structure State.KeepsShow (s t : State) : Prop where
  name : t.clock.mode.name = s.clock.mode.name
  now : t.now = s.now
  lampA : t.stoppage.lampA = s.stoppage.lampA
  lampB : t.stoppage.lampB = s.stoppage.lampB
  latches : ∀ p : PortId, s.ports[p].latches.getLsbD 7 = true → t.ports[p].latches.getLsbD 7 = true

theorem State.KeepsShow.of_eq {s t : State} (name : t.clock.mode.name = s.clock.mode.name) (now : t.now = s.now)
    (stoppage : t.stoppage.lampA = s.stoppage.lampA ∧ t.stoppage.lampB = s.stoppage.lampB)
    (ports : t.ports = s.ports) : s.KeepsShow t :=
  ⟨name, now, stoppage.1, stoppage.2, fun p h => by rw [ports]; exact h⟩

theorem State.ShowsMode.of_keeps {s t : State} (shows : s.ShowsMode) (keeps : s.KeepsShow t) : t.ShowsMode where
  latched p := keeps.latches p (shows.latched p)
  lampA := by rw [keeps.lampA, keeps.name, keeps.now]; exact shows.lampA
  lampB := by rw [keeps.lampB, keeps.name, keeps.now]; exact shows.lampB

theorem State.enterMode_showsMode (s : State) (m : LineMode) : (s.enterMode m).ShowsMode where
  latched p := by
    have bit : (Attention.mode).bit.getLsbD 7 = true := by decide
    unfold State.enterMode
    rw [State.raise_get]
    simp only [Port.raise, BitVec.getLsbD_or, bit, Bool.or_true]
  lampA := rfl
  lampB := rfl

/-- R26: every change of line mode is shown. -/
theorem ModeAct.showsMode {s t : State} (act : ModeAct s t) : t.ShowsMode := by
  cases act with
  | homing | home | hold | runout | setup | cleared | halted => exact State.enterMode_showsMode _ _
  | back kind ret mode =>
    unfold State.returnFromHold
    split
    · exact State.enterMode_showsMode _ _
    · split <;> exact State.enterMode_showsMode _ _

theorem State.beginReset_keepsShow (s : State) (cause : ResetCause) : s.KeepsShow (s.beginReset cause) := by
  unfold State.beginReset
  split
  · exact .of_eq (by simp) (by simp) (by simp [State.assertReset_stoppage]) (by simp)
  · exact ⟨rfl, rfl, rfl, rfl, fun p h => by simpa using h⟩

/-- An act shows the mode or keeps what is shown, but in CLEAR ATTENTION and when a lamp flashes. -/
theorem Act.showsMode_or_keeps {s t : State} (act : Act i ph s t) (noClear : ∀ p mask, i ≠ .clearAttention p mask)
    (noToggle : ∀ lamp, i ≠ .lampFlashToggle lamp) : t.ShowsMode ∨ s.KeepsShow t := by
  cases act with
  | mode t act => exact .inl act.showsMode
  | ports ps roles latches =>
    refine .inr ⟨rfl, rfl, rfl, rfl, latches.resolve_left ?_⟩
    rintro ⟨p, mask, h⟩
    exact noClear p mask h
  | lamps a b toggle =>
    obtain ⟨lamp, h⟩ := toggle
    exact absurd h (noToggle lamp)
  | reset cause => exact .inr (s.beginReset_keepsShow cause)
  | clock c act => exact .inr (.of_eq act.name rfl ⟨rfl, rfl⟩ rfl)
  | books | cams | aside | carousel | glue | lifting | supply | further | geometry | clampCount | pitchCounts | fill
  | empty | deliver => exact .inr (.of_eq rfl rfl ⟨rfl, rfl⟩ rfl)

/-- R26 and R188: a command within which the line mode changes ends showing the mode. -/
theorem exec_showsMode {s t : State} (resetEnd : ∀ sample, i ≠ .resetEnd sample) (h : exec i s = .next t)
    (changed : s.clock.mode.name ≠ t.clock.mode.name) : t.ShowsMode := by
  have move := (exec_nameMoves resetEnd h).resolve_left changed
  have noClear : ∀ p mask, i ≠ .clearAttention p mask := by
    rintro p mask rfl
    revert move
    cases s.clock.mode.name <;> cases t.clock.mode.name <;> exact Bool.false_ne_true
  have noToggle : ∀ lamp, i ≠ .lampFlashToggle lamp := by
    rintro lamp rfl
    revert move
    cases s.clock.mode.name <;> cases t.clock.mode.name <;> exact Bool.false_ne_true
  have kept := exec_keeps (P := fun u => u.ShowsMode ∨ u.clock.mode.name = s.clock.mode.name)
    (fun act before => (act.showsMode_or_keeps noClear noToggle).elim .inl fun keeps =>
      before.imp (fun shows => shows.of_keeps keeps) fun same => keeps.name.trans same) resetEnd h (.inr rfl)
  exact kept.resolve_right fun same => changed same.symm

/-! ### Suspects -/

/-- R180: every live book that stands in a clamp is suspect. -/
def State.ClampedSuspect (s : State) : Prop :=
  ∀ (clamp n : Nat) (b : Book), s.carousel.bookIn clamp = some n → s.findBook n = some b → b.suspect = true

/-- What brings the line into HALTED leaves the clamped books suspect. -/
def State.HaltMarks (s t : State) : Prop :=
  t.clock.mode = .halted → s.clock.mode = .halted ∨ t.ClampedSuspect

theorem State.ClampedSuspect.of_eq {s t : State} (h : s.ClampedSuspect) (books : t.books = s.books)
    (carousel : t.carousel = s.carousel) : t.ClampedSuspect := by
  intro clamp n b stands found
  rw [carousel] at stands
  rw [State.findBook_congr (congrArg BookTable.slots books)] at found
  exact h clamp n b stands found

theorem State.HaltMarks.refl (s : State) : s.HaltMarks s := .inl

/-- One thing after another, the second of which does nothing in HALTED. -/
theorem State.HaltMarks.then {s t u : State} (st : s.HaltMarks t) (tu : t.HaltMarks u)
    (stays : t.clock.mode = .halted → u.books = t.books ∧ u.carousel = t.carousel) : s.HaltMarks u := by
  intro halted
  obtain before | marked := tu halted
  · obtain ⟨books, carousel⟩ := stays before
    exact (st before).imp_right fun marked => marked.of_eq books carousel
  · exact .inr marked

theorem State.HaltMarks.of_mode {s t : State} (h : t.clock.mode = s.clock.mode) : s.HaltMarks t :=
  fun halted => .inl (h.symm.trans halted)

/-- A change of other blocks than the Pitch Clock, the books and the clamps. -/
theorem State.HaltMarks.congr {s t u : State} (st : s.HaltMarks t)
    (h : u.clock = t.clock ∧ u.books = t.books ∧ u.carousel = t.carousel) : s.HaltMarks u :=
  st.then (.of_mode (congrArg PitchClock.mode h.1)) fun _ => h.2

theorem mem_of_join_some {l : List (Option Nat)} {clamp n : Nat} (h : l[clamp]?.join = some n) : some n ∈ l := by
  rw [Option.join_eq_some_iff] at h
  exact List.mem_of_getElem? h

theorem State.markSuspects_clampedSuspect (s : State) : s.markSuspects.ClampedSuspect := by
  intro clamp n b stands found
  obtain ⟨serial, live⟩ := State.findBook_some found
  obtain ⟨slot, -, mapped⟩ : ∃ slot ∈ s.books.slots.toList, slot.map (fun b =>
      if some b.serial ∈ s.carousel.clampMap then { b with suspect := true } else b) = some b := by
    simpa [State.markSuspects] using BookTable.mem_live.1 live
  obtain ⟨x, -, rfl⟩ := Option.map_eq_some_iff.1 mapped
  have clamped : some x.serial ∈ s.carousel.clampMap := by
    have same : x.serial = n := by rw [← serial]; split <;> rfl
    rw [same]
    exact mem_of_join_some stands
  rw [if_pos clamped]

theorem State.enterHalted_clampedSuspect (s : State) (cause : HaltCause) : (s.enterHalted cause).ClampedSuspect :=
  fun clamp n b stands found => s.cutGlueWindows.markSuspects_clampedSuspect clamp n b
    (by simpa [State.enterHalted_eq, Carousel.bookIn] using stands) found

theorem State.takeHaltCause_haltMarks (s : State) (cause : HaltCause) : s.HaltMarks (s.takeHaltCause cause) := by
  have halted := s.enterHalted_clampedSuspect cause
  unfold State.takeHaltCause
  split
  next mode => exact fun _ => .inl mode
  next =>
    split
    · exact fun _ => .inr halted
    · exact .refl s
  all_goals exact fun _ => .inr halted

/-- A halt cause taken in HALTED changes neither books nor clamps. -/
theorem State.takeHaltCause_of_halted {s : State} (cause : HaltCause) (mode : s.clock.mode = .halted) :
    (s.takeHaltCause cause).books = s.books ∧ (s.takeHaltCause cause).carousel = s.carousel := by
  unfold State.takeHaltCause
  rw [mode]
  exact ⟨rfl, rfl⟩

/-! ### Events that cannot halt the line -/

/-- The line is not in HALTED after what was not in HALTED before. -/
theorem State.HaltMarks.of_setup {s t : State} (h : t.clock.mode = s.clock.mode ∨ t.clock.mode = .setup) :
    s.HaltMarks t := by
  intro halted
  obtain same | setup := h
  · exact .inl (same.symm.trans halted)
  · rw [setup] at halted; contradiction

theorem State.emptyClamp_mode (s : State) (clamp : Nat) :
    (s.emptyClamp clamp).clock.mode = s.clock.mode ∨ (s.emptyClamp clamp).clock.mode = .setup := by
  unfold State.emptyClamp
  dsimp only
  split
  · exact .inr rfl
  · exact .inl rfl

theorem State.joinDelivery_clock (s : State) (b : Book) : (s.joinDelivery b).clock = s.clock := rfl

theorem State.releaseEvent_mode (s : State) (b : Book) (clamp : Nat) :
    (s.releaseEvent b clamp).clock.mode = s.clock.mode ∨ (s.releaseEvent b clamp).clock.mode = .setup := by
  unfold State.releaseEvent
  dsimp only
  split
  · exact State.emptyClamp_mode _ clamp
  · simpa using State.emptyClamp_mode
      (((s.beginFixed Channel.opening clamp).beginFixed Channel.reject clamp).retireRejected b.serial .release _) clamp

theorem State.spineGlueCheck_clock (s : State) (b : Book) (clamp : Nat) :
    (s.spineGlueCheck b clamp).clock = s.clock := by
  unfold State.spineGlueCheck
  split
  · rfl
  · split
    · dsimp only; split <;> rfl
    · rfl

theorem State.sideGlueCheck_clock (s : State) (b : Book) (clamp : Nat) :
    (s.sideGlueCheck b clamp).clock = s.clock := by
  unfold State.sideGlueCheck
  repeat' split
  all_goals rfl

theorem State.coverDecision_clock (s : State) (b : Book) (clamp : Nat) :
    (s.coverDecision b clamp).clock = s.clock := by
  unfold State.coverDecision
  dsimp only
  repeat' split
  all_goals rfl

theorem State.nipEvent_clock (s : State) (b : Book) (clamp : Nat) : (s.nipEvent b clamp).clock = s.clock := by
  unfold State.nipEvent
  dsimp only
  split <;> rfl

theorem State.actAt_mode (s : State) (st : Station) (clamp n : Nat) :
    (s.actAt st clamp n).clock.mode = s.clock.mode ∨ (s.actAt st clamp n).clock.mode = .setup := by
  unfold State.actAt
  split
  · exact .inl rfl
  · cases st with
    | infeed | mill => exact .inl rfl
    | spineGlue => exact .inl (congrArg PitchClock.mode (State.spineGlueCheck_clock _ _ _))
    | sideGlue => exact .inl (congrArg PitchClock.mode (State.sideGlueCheck_clock _ _ _))
    | cover => exact .inl (congrArg PitchClock.mode (State.coverDecision_clock _ _ _))
    | nip => exact .inl (congrArg PitchClock.mode (State.nipEvent_clock _ _ _))
    | release => exact s.releaseEvent_mode _ clamp

theorem State.workEvent_mode (s : State) (st : Station) (clamp : Nat) :
    (s.workEvent st clamp).clock.mode = s.clock.mode ∨ (s.workEvent st clamp).clock.mode = .setup := by
  unfold State.workEvent
  split
  · exact .inl rfl
  · split
    · exact .inl rfl
    · split
      next n _ _ b _ _ =>
        rw [← congrArg PitchClock.mode (s.missedStations_frame n (missedStations b.progress st)).1]
        exact State.actAt_mode _ st clamp n
      next => exact .inl rfl

theorem State.infeedEvent_clock (s : State) (clamp : Nat) : (s.infeedEvent clamp).clock = s.clock := by
  unfold State.infeedEvent
  split
  · simp [State.admitBlock]
  · rfl

/-- R9: no station halts the line. -/
theorem State.fireIfDue_mode (s : State) (st : Station) :
    (s.fireIfDue st).clock.mode = s.clock.mode ∨ (s.fireIfDue st).clock.mode = .setup := by
  obtain ⟨-, h⟩ | h := s.fireIfDue_cases st <;> rw [h]
  · cases st with
    | infeed =>
      rw [State.fireStation_infeed, State.infeedEvent_clock]
      exact .inl rfl
    | mill | spineGlue | sideGlue | cover | nip | release => exact State.workEvent_mode _ _ _
  · exact .inl rfl

/-- R9: in HALTED no station fires. -/
theorem State.fireIfDue_of_halted {s : State} (st : Station) (mode : s.clock.mode = .halted) : s.fireIfDue st = s := by
  unfold State.fireIfDue
  rw [mode]
  rfl

/-! ### The events that can -/

theorem State.checkPitches_haltMarks (s : State) : s.HaltMarks s.checkPitches := by
  unfold State.checkPitches
  split
  · exact s.takeHaltCause_haltMarks _
  · exact .refl s

theorem State.checkHomingTravel_haltMarks (s : State) : s.HaltMarks s.checkHomingTravel := by
  unfold State.checkHomingTravel
  split
  · exact s.takeHaltCause_haltMarks _
  · exact .refl s

theorem State.returnFromHold_mode_ne_halted (s : State) (ret : ReturnMode) :
    (s.returnFromHold ret).clock.mode ≠ .halted := by
  unfold State.returnFromHold
  split
  · simp
  · split
    · simp [State.enterSetup]
    · simp

theorem State.checkStandstill_haltMarks (s : State) : s.HaltMarks s.checkStandstill := by
  unfold State.checkStandstill
  split
  · split
    · exact fun halted => absurd halted (s.returnFromHold_mode_ne_halted _)
    · exact .refl s
  all_goals exact .refl s

theorem State.checkPitches_of_halted {s : State} (mode : s.clock.mode = .halted) : s.checkPitches = s := by
  unfold State.checkPitches
  rw [mode]
  rfl

theorem State.checkHomingTravel_of_halted {s : State} (mode : s.clock.mode = .halted) : s.checkHomingTravel = s := by
  unfold State.checkHomingTravel
  rw [mode]
  rfl

theorem State.checkStandstill_of_halted {s : State} (mode : s.clock.mode = .halted) : s.checkStandstill = s := by
  unfold State.checkStandstill
  rw [mode]

theorem State.counted_haltMarks (s : State) : s.HaltMarks s.counted := by
  have advanced : s.HaltMarks { s.restartStandstill with
      clock := s.restartStandstill.clock.advance, cams := s.cams.map CamChannel.advance } :=
    .of_mode ((PitchClock.advance_mode _).trans s.restartStandstill_position.1)
  refine advanced.then (State.checkPitches_haltMarks _) fun mode => ?_
  unfold State.counted
  rw [State.checkPitches_of_halted mode]
  exact ⟨rfl, rfl⟩

theorem PitchClock.countTravel_mode (c : PitchClock) : c.countTravel.mode = c.mode := by
  unfold PitchClock.countTravel
  split <;> rfl

theorem State.fireAll_of_halted (l : List Station) {s : State} (mode : s.clock.mode = .halted) :
    l.foldl State.fireIfDue s = s := by
  induction l with
  | nil => rfl
  | cons st l ih => rw [List.foldl_cons, State.fireIfDue_of_halted st mode, ih]

theorem State.fireAll_haltMarks (l : List Station) (s : State) : s.HaltMarks (l.foldl State.fireIfDue s) := by
  induction l generalizing s with
  | nil => exact .refl s
  | cons st l ih =>
    refine State.HaltMarks.then (.of_setup (s.fireIfDue_mode st)) (ih _) fun mode => ?_
    rw [List.foldl_cons, State.fireAll_of_halted l mode]
    exact ⟨rfl, rfl⟩

theorem State.checks_haltMarks (s : State) : s.HaltMarks s.checkHomingTravel.checkStandstill := by
  refine s.checkHomingTravel_haltMarks.then (State.checkStandstill_haltMarks _) fun mode => ?_
  rw [State.checkStandstill_of_halted mode]
  exact ⟨rfl, rfl⟩

theorem State.checks_of_halted {s : State} (mode : s.clock.mode = .halted) :
    s.checkHomingTravel.checkStandstill = s := by
  rw [State.checkHomingTravel_of_halted mode, State.checkStandstill_of_halted mode]

theorem State.outlet_haltMarks (s : State) : s.HaltMarks s.outlet := by
  have fired := s.fireAll_haltMarks [Station.mill, .spineGlue, .sideGlue, .cover, .nip, .release]
  unfold State.outlet
  dsimp only
  generalize [Station.mill, .spineGlue, .sideGlue, .cover, .nip, .release].foldl State.fireIfDue s = u at fired ⊢
  have travelled : s.HaltMarks { u with clock := u.clock.countTravel } :=
    fired.then (.of_mode (PitchClock.countTravel_mode _)) fun _ => ⟨rfl, rfl⟩
  refine travelled.then (State.checks_haltMarks _) fun mode => ?_
  rw [State.checks_of_halted mode]
  exact ⟨rfl, rfl⟩

theorem State.outlet_of_halted {s : State} (mode : s.clock.mode = .halted) :
    s.outlet.books = s.books ∧ s.outlet.carousel = s.carousel := by
  have travel : ({ s with clock := s.clock.countTravel } : State).clock.mode = .halted :=
    (PitchClock.countTravel_mode _).trans mode
  unfold State.outlet
  simp only [State.fireAll_of_halted _ mode, State.checks_of_halted travel, and_self]

theorem execForwardCount_haltMarks {s t : State} (h : exec .forwardCount s = .next t) : s.HaltMarks t := by
  obtain ⟨t', h', same | same | ⟨-, same⟩⟩ := exec_forwardCount_cases s
  all_goals rw [← Host.Outcome.next.inj (h'.symm.trans h), same]
  · exact .refl s
  · exact .of_mode s.restartStandstill_position.1
  · refine State.HaltMarks.then (State.HaltMarks.then s.counted_haltMarks (.of_setup (State.fireIfDue_mode _ _))
      fun mode => ?_) (State.outlet_haltMarks _) State.outlet_of_halted
    rw [State.fireIfDue_of_halted _ mode]
    exact ⟨rfl, rfl⟩

theorem State.whenRunning_haltMarks {s : State} {f : State → State} (h : s.HaltMarks (f s)) :
    s.HaltMarks (s.whenRunning f) := by
  obtain ⟨-, same⟩ | ⟨-, same⟩ := State.whenRunning_cases f s <;> rw [same]
  · exact .refl s
  · exact h

/-- A halt cause after a change that keeps the line mode. -/
theorem State.takeHaltCause_haltMarks_of_mode {s t : State} (cause : HaltCause)
    (mode : t.clock.mode = s.clock.mode) : s.HaltMarks (t.takeHaltCause cause) :=
  State.HaltMarks.then (.of_mode mode) (t.takeHaltCause_haltMarks cause) (State.takeHaltCause_of_halted cause)

theorem execReverseCount_haltMarks {s t : State} (h : exec .reverseCount s = .next t) : s.HaltMarks t := by
  rw [← Host.Outcome.next.inj h]
  apply State.whenRunning_haltMarks
  have mode := s.restartStandstill_position.1
  split
  · exact .refl s
  · dsimp only
    split
    · exact .of_mode mode
    · have lag : (if s.clock.lag = s.clock.geometry.reverseTolerance then s.restartStandstill
          else { s.restartStandstill with clock := { s.restartStandstill.clock with
            lag := Config.lagPastTolerance s.clock.lag s.clock.geometry.reverseTolerance } }).clock.mode
          = s.clock.mode := by
        split <;> exact mode
      split
      · exact .of_mode lag
      · exact State.takeHaltCause_haltMarks_of_mode _ lag

theorem State.homeEdge_haltMarks (s : State) : s.HaltMarks s.homeEdge := by
  have accepted : s.HaltMarks (if s.clock.homeAccepted then
      { s with clock := { s.clock with pitchesSinceHome := 0 } } else s.takeHaltCause .homeMismatch) := by
    split
    · exact .of_mode rfl
    · exact s.takeHaltCause_haltMarks _
  unfold State.homeEdge
  split
  next => exact fun halted => absurd halted (by simp [State.takeHome])
  next => exact accepted
  next => exact accepted
  next => exact accepted
  next => exact .refl s
  next => exact .refl s

theorem State.sensorEdge_haltMarks (s : State) (n : Sensor) : s.HaltMarks (s.sensorEdge n) := by
  cases n with
  | block =>
    refine .of_mode ?_
    simp only [State.sensorEdge, State.blockEdge]
    split <;> rfl
  | home => exact s.homeEdge_haltMarks
  | jamA | jamB => exact s.takeHaltCause_haltMarks _

theorem State.sensorEdge_of_halted {s : State} (n : Sensor) (mode : s.clock.mode = .halted) :
    (s.sensorEdge n).books = s.books ∧ (s.sensorEdge n).carousel = s.carousel := by
  cases n with
  | block => simp [State.sensorEdge, State.blockEdge, mode, LineMode.started, LineMode.stationsFire, LineMode.name]
  | home => simp [State.sensorEdge, State.homeEdge, mode]
  | jamA | jamB => exact State.takeHaltCause_of_halted _ mode

/-- A conditioned change after a change that keeps the line mode. -/
theorem State.conditionedChange_haltMarks {s t : State} (n : Sensor) (level : Bool)
    (mode : t.clock.mode = s.clock.mode) : s.HaltMarks (t.conditionedChange n level) := by
  unfold State.conditionedChange
  dsimp only
  split
  · have changed : s.HaltMarks (t.modifySensor n fun c => { c with level := level, pending := none }) :=
      .of_mode mode
    exact changed.then (State.sensorEdge_haltMarks _ n) (State.sensorEdge_of_halted n)
  · exact .of_mode mode

theorem execSensorRawChange_haltMarks {s t : State} {n : Sensor} {level : Bool}
    (h : exec (.sensorRawChange n level) s = .next t) : s.HaltMarks t := by
  rw [← Host.Outcome.next.inj h]
  apply State.whenRunning_haltMarks
  dsimp only
  split
  · exact .refl s
  · split
    · exact .of_mode rfl
    · split
      · exact State.conditionedChange_haltMarks n level rfl
      · exact .of_mode rfl

theorem execDebounceExpiry_haltMarks {s t : State} {n : Sensor} (h : exec (.debounceExpiry n) s = .next t) :
    s.HaltMarks t := by
  rw [← Host.Outcome.next.inj h]
  apply State.whenRunning_haltMarks
  dsimp only
  split
  · exact State.conditionedChange_haltMarks n _ rfl
  · exact .refl s

theorem execSupplyEvent_haltMarks {s t : State} (h : exec .supplyEvent s = .next t) : s.HaltMarks t := by
  rw [← Host.Outcome.next.inj h]
  apply State.whenRunning_haltMarks
  split
  · exact .refl s
  · exact .refl s
  · dsimp only
    split
    · exact State.takeHaltCause_haltMarks_of_mode _ rfl
    · exact .of_mode (by rw [State.beginReset_clock]; rfl)

/-- R24: the commands and events that can take the line into HALTED. -/
theorem halting_cases {m : ModeName} (move : modeMove i m .halted = true) :
    i = .reverseCount ∨ i = .forwardCount ∨ i = .homingTravelLimit ∨ i = .pitchesSinceHomeLimit ∨ i = .supplyEvent
    ∨ (∃ n level, i = .sensorRawChange n level) ∨ ∃ n, i = .debounceExpiry n := by
  cases i with
  | reverseCount | forwardCount | homingTravelLimit | pitchesSinceHomeLimit | supplyEvent | sensorRawChange
  | debounceExpiry => simp
  | _ => cases m <;> exact absurd move Bool.false_ne_true

/-- R180: a command within which the line enters HALTED leaves the clamped books suspect. -/
theorem exec_haltMarks {s t : State} (h : exec i s = .next t) : s.HaltMarks t := by
  intro halted
  by_cases before : s.clock.mode = .halted
  · exact .inl before
  have changed : s.clock.mode.name ≠ t.clock.mode.name := by
    rw [halted]
    cases mode : s.clock.mode <;> simp_all [LineMode.name]
  by_cases resetEnd : ∀ sample, i ≠ .resetEnd sample
  · have move := (exec_nameMoves resetEnd h).resolve_left changed
    rw [halted] at move
    obtain rfl | rfl | rfl | rfl | rfl | ⟨n, level, rfl⟩ | ⟨n, rfl⟩ := halting_cases move
    · exact execReverseCount_haltMarks h halted
    · exact execForwardCount_haltMarks h halted
    · rw [← Host.Outcome.next.inj h] at halted ⊢
      exact State.whenRunning_haltMarks s.checkHomingTravel_haltMarks halted
    · rw [← Host.Outcome.next.inj h] at halted ⊢
      exact State.whenRunning_haltMarks s.checkPitches_haltMarks halted
    · exact execSupplyEvent_haltMarks h halted
    · exact execSensorRawChange_haltMarks h halted
    · exact execDebounceExpiry_haltMarks h halted
  · simp only [ne_eq, not_forall, not_not] at resetEnd
    obtain ⟨sample, rfl⟩ := resetEnd
    obtain ⟨t', h', same | ⟨-, -, same⟩ | same⟩ := exec_resetEnd_cases s sample
    all_goals rw [← Host.Outcome.next.inj (h'.symm.trans h), same] at halted
    · exact absurd halted before
    · exact absurd halted before
    · contradiction

/-- Settles O41: the name of the line mode moves by the table act by act, every change of it is shown, and what halts
the line marks the clamped books. -/
theorem modeChangesFollowTheTable : Obligations.ModeChangesFollowTheTable := by
  unfold Obligations.ModeChangesFollowTheTable
  refine ⟨fun i s t resetEnd h changed => (exec_nameMoves resetEnd h).resolve_left changed,
    fun i s t resetEnd h changed => ?_, fun s t h before halted => ?_⟩
  · obtain ⟨latched, lampA, lampB⟩ := exec_showsMode resetEnd h changed
    refine ⟨latched, lampA.trans ?_, lampB.trans ?_⟩ <;> cases t.clock.mode.name <;> rfl
  · obtain ⟨i, rest, h⟩ | ⟨p, e, rest, rfl⟩ | rfl := step_cases h
    · exact (exec_haltMarks h halted).resolve_left before
    · rw [((State.takeWire_frame _ p e).2.1 :)] at halted
      exact absurd halted before
    · exact absurd halted before

end Sys2Proof.Machine
end

section
/-!
PROOF. Every act keeps the line mode in agreement with what hangs on it (R11, R24, R141), and the position within the
geometry (R1, R7).
-/

namespace Sys2Proof.Machine

variable {i : Instr} {ph : Phase}

/-! ### Line mode -/

/-- The blocks the line mode is held to agree with. -/
theorem State.LineModeSound.congr {s t : State} (h : s.LineModeSound) (clock : t.clock = s.clock)
    (cams : t.cams = s.cams) (carousel : t.carousel.presence = s.carousel.presence)
    (stoppage : t.stoppage.haltCause = s.stoppage.haltCause ∧ t.stoppage.furtherCause = s.stoppage.furtherCause
      ∧ t.stoppage.held = s.stoppage.held ∧ t.stoppage.asserted = s.stoppage.asserted) : t.LineModeSound := by
  obtain ⟨cause, further, held, asserted⟩ := stoppage
  exact ⟨by rw [clock]; exact h.standstill, by rw [clock, cause]; exact h.haltCause,
    by rw [clock, further]; exact h.furtherCause, by rw [clock, cams]; exact h.windows,
    by rw [clock, cams]; exact h.forces, by rw [clock, carousel]; exact h.presence,
    by rw [held, asserted]; exact h.sources⟩

/-- A change of the Pitch Clock within a line mode. -/
theorem State.LineModeSound.withClock {s : State} {c : PitchClock} (h : s.LineModeSound)
    (mode : c.mode = s.clock.mode) (timer : c.standstillTimer.isSome = s.clock.standstillTimer.isSome) :
    ({ s with clock := c } : State).LineModeSound where
  standstill := by rw [timer, mode]; exact h.standstill
  haltCause := by rw [mode]; exact h.haltCause
  furtherCause := by rw [mode]; exact h.furtherCause
  windows := by rw [mode]; exact h.windows
  forces := by rw [mode]; exact h.forces
  presence := by rw [mode]; exact h.presence
  sources := h.sources

theorem ClockAct.lineModeSound {s : State} {c : PitchClock} (act : ClockAct i ph s.clock c) (h : s.LineModeSound) :
    ({ s with clock := c } : State).LineModeSound := by
  cases act with
  | restart due runs => exact h.withClock rfl (h.standstill.2 runs).symm
  | advance => exact h.withClock (PitchClock.advance_mode _) (by unfold PitchClock.advance; split <;> rfl)
  | holdKind kind kind' ret ret' mode =>
    have stopped : ¬ s.clock.standstillTimer.isSome = true := fun runs => by simpa [mode] using h.standstill.1 runs
    have noCause : ¬ s.stoppage.haltCause.isSome = true := fun cause => by simpa [mode] using h.haltCause.1 cause
    have noFurther : ¬ s.stoppage.furtherCause = true := fun further => by simpa [mode] using h.furtherCause further
    exact ⟨by simpa using stopped, by simpa using noCause, fun further => absurd further noFurther,
      fun fires => by contradiction, fun _ => h.forces (by simp [mode]), fun halted => by contradiction, h.sources⟩
  | lag | lagDown | marks | stations => exact h.withClock rfl rfl

theorem CamAct.lineModeSound {s : State} {k : Vector CamChannel 8} (act : CamAct s.clock.mode s.cams k)
    (h : s.LineModeSound) : ({ s with cams := k } : State).LineModeSound := by
  have kept (windows : s.clock.mode.stationsFire = false → ∀ c : Fin 8, k[c].window = none)
      (forces : s.clock.mode ≠ .setup → ∀ c : Fin 8, k[c].forced = false) :
      ({ s with cams := k } : State).LineModeSound :=
    ⟨h.standstill, h.haltCause, h.furtherCause, windows, forces, h.presence, h.sources⟩
  cases act with
  | advance =>
    refine kept (fun still c => ?_) fun mode c => ?_
    · simp [CamChannel.advance, show s.cams[(c : Nat)].window = none from h.windows still c]
    · simpa [CamChannel.advance] using h.forces mode c
  | window c w fires =>
    refine kept (fun still d => ?_) fun mode d => ?_
    · obtain rfl := fires.resolve_right (by simp [still])
      by_cases same : (c : Nat) = d
      · simp [same]
      · simpa [Vector.getElem_set, same] using h.windows still d
    · by_cases same : (c : Nat) = d
      · simpa [same] using h.forces mode d
      · simpa [Vector.getElem_set, same] using h.forces mode d
  | write c x setup window =>
    refine kept (fun still d => ?_) fun mode d => absurd setup mode
    by_cases same : (c : Nat) = d
    · obtain rfl := Fin.ext same
      simpa [window] using h.windows still c
    · simpa [Vector.getElem_set, same] using h.windows still d

/-- A change of line mode leaves the part sound if the new mode's timer, windows, forces, latch and causes are right. -/
theorem State.enterMode_lineModeSound {s : State} {m : LineMode}
    (standstill : s.clock.standstillTimer.isSome = true ↔ m = .run ∨ m = .runout)
    (haltCause : s.stoppage.haltCause.isSome = true ↔ m = .halted)
    (furtherCause : s.stoppage.furtherCause = true → m = .halted)
    (windows : m.stationsFire = false → ∀ c : Fin 8, s.cams[c].window = none)
    (forces : m ≠ .setup → ∀ c : Fin 8, s.cams[c].forced = false)
    (presence : m = .halted → s.carousel.presence = false)
    (sources : s.stoppage.held = true ↔ s.stoppage.asserted ≠ []) : (s.enterMode m).LineModeSound :=
  ⟨standstill, haltCause, furtherCause, windows, forces, presence, sources⟩

section Sound

variable {s : State} (h : s.LineModeSound)
include h

theorem State.LineModeSound.no_cause (mode : s.clock.mode ≠ .halted) : s.stoppage.haltCause.isSome = false := by
  simpa [mode] using h.haltCause

theorem State.LineModeSound.no_further (mode : s.clock.mode ≠ .halted) : s.stoppage.furtherCause = false := by
  by_contra further
  exact mode (h.furtherCause (by simpa using further))

/-- From a mode other than HALTED to another such. -/
theorem State.LineModeSound.enterMode {u : State} {m : LineMode} (from_ : s.clock.mode ≠ .halted) (onto : m ≠ .halted)
    (stoppage : u.stoppage = s.stoppage)
    (standstill : u.clock.standstillTimer.isSome = true ↔ m = .run ∨ m = .runout)
    (windows : m.stationsFire = false → ∀ c : Fin 8, u.cams[c].window = none)
    (forces : m ≠ .setup → ∀ c : Fin 8, u.cams[c].forced = false) : (u.enterMode m).LineModeSound := by
  refine State.enterMode_lineModeSound standstill ?_ ?_ windows forces (fun halted => absurd halted onto) ?_
  · rw [stoppage, h.no_cause from_]
    simp [onto]
  · rw [stoppage, h.no_further from_]
    simp
  · rw [stoppage]
    exact h.sources

theorem State.LineModeSound.enterSetup (mode : s.clock.mode ≠ .halted) : s.enterSetup.LineModeSound := by
  refine h.enterMode mode (by simp) rfl (by simp [State.stopStandstill, State.endWindows])
    (fun _ c => by simp [State.endWindows]) fun other => absurd rfl other

theorem State.LineModeSound.returnFromHold {kind : HoldKind} {ret ret' : ReturnMode}
    (mode : s.clock.mode = .hold kind ret) : (s.returnFromHold ret').LineModeSound := by
  have forces := h.forces (by simp [mode])
  unfold State.returnFromHold
  split
  · exact h.enterMode (by simp [mode]) (by simp) rfl (by simp [State.startStandstill])
      (by simp [LineMode.stationsFire, LineMode.name])
      fun _ => forces
  · split
    · exact h.enterSetup (by simp [mode])
    · exact h.enterMode (by simp [mode]) (by simp) rfl (by simp [State.startStandstill])
        (by simp [LineMode.stationsFire, LineMode.name]) fun _ => forces

end Sound

theorem ModeAct.lineModeSound {s t : State} (act : ModeAct s t) (h : s.LineModeSound) : t.LineModeSound := by
  cases act with
  | homing mode =>
    have stopped : s.clock.standstillTimer.isSome = false := by simpa [mode] using h.standstill
    have windows := h.windows (by rw [mode]; rfl)
    refine h.enterMode (by simp [mode]) (by simp) rfl (by simpa using stopped) (fun _ c => ?_) fun _ c => ?_
    · simpa [State.releaseForces] using windows c
    · simp [State.releaseForces]
  | home mode =>
    exact h.enterMode (by simp [mode]) (by simp) rfl (by simp [State.startStandstill])
      (by simp [LineMode.stationsFire, LineMode.name]) fun _ => h.forces (by simp [mode])
  | hold kind ret mode =>
    have other : s.clock.mode ≠ .halted ∧ s.clock.mode ≠ .setup := by
      obtain mode | mode := mode <;> simp [mode]
    exact h.enterMode other.1 (by simp) rfl (by simp) (by simp [LineMode.stationsFire, LineMode.name])
      fun _ => h.forces other.2
  | back kind ret mode => exact h.returnFromHold mode
  | runout mode =>
    have runs := h.standstill.2 (.inl mode)
    exact h.enterMode (by simp [mode]) (by simp) rfl (by simpa using runs)
      (by simp [LineMode.stationsFire, LineMode.name])
      fun _ => h.forces (by simp [mode])
  | setup started => exact h.enterSetup (by rintro mode; rw [mode] at started; contradiction)
  | cleared mode =>
    have stopped : s.clock.standstillTimer.isSome = false := by simpa [mode] using h.standstill
    exact State.enterMode_lineModeSound (by simpa using stopped) (by simp) (by simp)
      (fun _ => h.windows (by rw [mode]; rfl)) (fun other => absurd rfl other) (by simp) h.sources
  | halted cause mode =>
    exact State.enterMode_lineModeSound (by simp [State.stopStandstill]) (by simp) (by simp)
      (fun _ c => by simp [State.endWindows, State.releaseForces, State.stopStandstill])
      (fun _ c => by simp [State.endWindows, State.releaseForces, State.stopStandstill]) (fun _ => rfl) h.sources

theorem State.LineModeSound.beginReset {s : State} (h : s.LineModeSound) (cause : ResetCause) :
    (s.beginReset cause).LineModeSound := by
  unfold State.beginReset
  split
  next held =>
    refine ⟨?_, ?_, ?_, ?_, ?_, ?_, ?_⟩
    all_goals simp only [State.assertReset_frame, State.assertReset_stoppage]
    · exact h.standstill
    · exact h.haltCause
    · exact h.furtherCause
    · exact h.windows
    · exact h.forces
    · exact h.presence
    · have standing := h.sources.1 held
      split <;> simp [held, standing]
  next => exact ⟨h.standstill, h.haltCause, h.furtherCause, h.windows, h.forces, h.presence, by simp⟩

theorem Act.lineModeSound {s t : State} (act : Act i ph s t) (h : s.LineModeSound) : t.LineModeSound := by
  cases act with
  | clock c act => exact act.lineModeSound h
  | cams k act => exact act.lineModeSound h
  | mode t act => exact act.lineModeSound h
  | reset cause => exact h.beginReset cause
  | carousel presence locks latch =>
    refine ⟨h.standstill, h.haltCause, h.furtherCause, h.windows, h.forces, fun halted => ?_, h.sources⟩
    by_contra set
    obtain stood | started := latch (by simpa using set)
    · rw [h.presence halted] at stood; contradiction
    · have halted : s.clock.mode = .halted := halted
      rw [halted] at started; contradiction
  | further mode => exact ⟨h.standstill, h.haltCause, fun _ => mode, h.windows, h.forces, h.presence, h.sources⟩
  | fill => exact ⟨h.standstill, h.haltCause, h.furtherCause, h.windows, h.forces, fun _ => rfl, h.sources⟩
  | geometry | clampCount | pitchCounts =>
    exact ⟨h.standstill, h.haltCause, h.furtherCause, h.windows, h.forces, h.presence, h.sources⟩
  | ports | books | aside | glue | lifting | supply | lamps | empty | deliver =>
    exact h.congr rfl rfl rfl ⟨rfl, rfl, rfl, rfl⟩

/-- The reset values agree with SETUP. -/
theorem State.afterReset_lineModeSound (s : State) (sample : ResetSample) : (s.afterReset sample).LineModeSound := by
  refine ⟨?_, ?_, ?_, fun _ => ?_, ?_, ?_, ?_⟩
  · simp [State.afterReset, PitchClock.afterReset]
  · simp [State.afterReset, Stoppage.afterReset, PitchClock.afterReset]
  · simp [State.afterReset, Stoppage.afterReset]
  · show ∀ c : Fin 8, CamChannel.defaults[c].window = none
    decide
  · exact fun other => absurd rfl other
  · exact fun _ => rfl
  · simp [State.afterReset, Stoppage.afterReset]

/-- Settles O56: act by act. -/
theorem stepKeepsLineModeSound : Obligations.StepKeepsLineModeSound := by
  unfold Obligations.StepKeepsLineModeSound
  intro s t before h
  refine step_keeps Act.lineModeSound ?_ State.afterReset_lineModeSound ?_ ?_ ?_ before h
  · intro s rest held some_ h
    exact ⟨h.standstill, h.haltCause, h.furtherCause, h.windows, h.forces, h.presence, by simp [held, some_]⟩
  · exact fun s rest h => h.congr rfl rfl rfl ⟨rfl, rfl, rfl, rfl⟩
  · intro s p e rest h
    exact h.congr (by simp) (by simp) (by simp) (by simp)
  · exact fun s h => h.congr rfl rfl rfl ⟨rfl, rfl, rfl, rfl⟩

/-! ### Position -/

theorem State.PositionSound.congr {s t : State} (h : s.PositionSound) (clock : t.clock = s.clock) :
    t.PositionSound :=
  ⟨by rw [clock]; exact h.geometry, by rw [clock]; exact h.phase, by rw [clock]; exact h.clampIndex,
    by rw [clock]; exact h.homePhase, by rw [clock]; exact h.lag⟩

/-- R7: N and E are positive. -/
theorem Geometry.inRange.pos {g : Geometry} (h : g.inRange) : 0 < g.clampCount ∧ 0 < g.pitchCounts := by
  obtain ⟨⟨clamps, -⟩, ⟨counts, -⟩, -⟩ := h
  omega

theorem ClockAct.positionSound {s : State} {c : PitchClock} (act : ClockAct i ph s.clock c) (h : s.PositionSound) :
    ({ s with clock := c } : State).PositionSound := by
  cases act with
  | lag n bound =>
    exact ⟨h.geometry, h.phase, h.clampIndex, h.homePhase, fun started => bound started (h.lag started)⟩
  | lagDown =>
    exact ⟨h.geometry, h.phase, h.clampIndex, h.homePhase, fun started => (Nat.sub_le _ 1).trans (h.lag started)⟩
  | advance count =>
    obtain ⟨clamps, counts⟩ := h.geometry.pos
    unfold PitchClock.advance
    split
    next within => exact ⟨h.geometry, within, h.clampIndex, h.homePhase, h.lag⟩
    next => exact ⟨h.geometry, counts, Nat.mod_lt _ clamps, h.homePhase, h.lag⟩
  | holdKind kind kind' ret ret' mode =>
    have started : s.clock.mode.started = true := by rw [mode]; rfl
    exact ⟨h.geometry, h.phase, h.clampIndex, fun _ => h.homePhase started, fun _ => h.lag started⟩
  | marks | stations | restart => exact ⟨h.geometry, h.phase, h.clampIndex, h.homePhase, h.lag⟩

/-- R13: once the checks of START have passed, the home phase is less than E. -/
theorem State.homePhase_of_startCheck {s : State} (checked : s.startCheck = none) :
    s.clock.geometry.homePhase < s.clock.geometry.pitchCounts := by
  by_contra beyond
  unfold State.startCheck at checked
  simp only [Nat.not_lt.1 beyond, if_true] at checked
  split_ifs at checked

/-- A position kept from a started mode into any mode. -/
theorem State.PositionSound.of_started {s : State} {c : PitchClock} {t : State} (h : s.PositionSound)
    (started : s.clock.mode.started = true) (clock : t.clock = c)
    (same : c.geometry = s.clock.geometry ∧ c.phase = s.clock.phase ∧ c.clampIndex = s.clock.clampIndex
      ∧ c.lag = s.clock.lag) : t.PositionSound := by
  obtain ⟨geometry, phase, clampIndex, lag⟩ := same
  subst clock
  exact ⟨by rw [geometry]; exact h.geometry, by rw [geometry, phase]; exact h.phase,
    by rw [geometry, clampIndex]; exact h.clampIndex, fun _ => by rw [geometry]; exact h.homePhase started,
    fun _ => by rw [geometry, lag]; exact h.lag started⟩

theorem State.returnFromHold_position (s : State) (ret : ReturnMode) :
    (s.returnFromHold ret).clock.geometry = s.clock.geometry ∧ (s.returnFromHold ret).clock.phase = s.clock.phase
    ∧ (s.returnFromHold ret).clock.clampIndex = s.clock.clampIndex
    ∧ (s.returnFromHold ret).clock.lag = s.clock.lag := by
  unfold State.returnFromHold
  split
  · exact ⟨rfl, rfl, rfl, rfl⟩
  · split <;> exact ⟨rfl, rfl, rfl, rfl⟩

theorem ModeAct.positionSound {s t : State} (act : ModeAct s t) (h : s.PositionSound) : t.PositionSound := by
  cases act with
  | homing mode checked =>
    have home := State.homePhase_of_startCheck checked
    exact ⟨h.geometry, h.phase, h.clampIndex, fun _ => home, fun _ => Nat.zero_le _⟩
  | home mode =>
    have home := h.homePhase (by rw [mode]; rfl)
    exact ⟨h.geometry, home, h.geometry.pos.1, fun _ => home, fun _ => Nat.zero_le _⟩
  | hold kind ret mode =>
    refine h.of_started ?_ rfl ⟨rfl, rfl, rfl, rfl⟩
    obtain mode | mode := mode <;> rw [mode] <;> rfl
  | back kind ret mode => exact h.of_started (by rw [mode]; rfl) rfl (s.returnFromHold_position ret)
  | runout mode => exact h.of_started (by rw [mode]; rfl) rfl ⟨rfl, rfl, rfl, rfl⟩
  | setup started => exact h.of_started started rfl ⟨rfl, rfl, rfl, rfl⟩
  | cleared mode => exact ⟨h.geometry, h.phase, h.clampIndex, fun started => by contradiction, fun _ => Nat.zero_le _⟩
  | halted cause mode =>
    exact ⟨h.geometry, h.phase, h.clampIndex, fun started => by contradiction, fun started => by contradiction⟩

theorem Act.positionSound {s t : State} (act : Act i ph s t) (h : s.PositionSound) : t.PositionSound := by
  cases act with
  | clock c act => exact act.positionSound h
  | mode t act => exact act.positionSound h
  | reset cause => exact h.congr (s.beginReset_clock cause)
  | geometry f mode write range kept =>
    have stopped : ¬ s.clock.mode.started = true := by rw [mode]; exact Bool.false_ne_true
    obtain ⟨clamps, counts⟩ := kept s.clock.geometry
    exact ⟨range _ h.geometry, h.phase.trans_eq counts.symm, h.clampIndex.trans_eq clamps.symm,
      fun started => absurd started stopped, fun started => absurd started stopped⟩
  | clampCount n mode write lo hi =>
    have stopped : ¬ s.clock.mode.started = true := by rw [mode]; exact Bool.false_ne_true
    exact ⟨⟨⟨lo, hi⟩, h.geometry.2⟩, h.phase, Nat.lt_of_lt_of_le (Nat.zero_lt_succ _) lo,
      fun started => absurd started stopped, fun started => absurd started stopped⟩
  | pitchCounts e mode write lo hi =>
    have stopped : ¬ s.clock.mode.started = true := by rw [mode]; exact Bool.false_ne_true
    exact ⟨⟨h.geometry.1, ⟨lo, hi⟩, h.geometry.2.2⟩, Nat.lt_of_lt_of_le (Nat.zero_lt_succ _) lo, h.clampIndex,
      fun started => absurd started stopped, fun started => absurd started stopped⟩
  | ports | books | cams | aside | carousel | glue | lifting | supply | lamps | further | fill | empty | deliver =>
    exact h.congr rfl

theorem PitchClock.afterReset_position (sensors : Vector Bool 4) :
    let c := PitchClock.afterReset sensors
    c.geometry.inRange ∧ c.phase < c.geometry.pitchCounts ∧ c.clampIndex < c.geometry.clampCount
    ∧ c.geometry.homePhase < c.geometry.pitchCounts ∧ c.lag ≤ c.geometry.reverseTolerance := by
  simp [PitchClock.afterReset, Geometry.default, Geometry.inRange]

theorem State.afterReset_positionSound (s : State) (sample : ResetSample) : (s.afterReset sample).PositionSound := by
  obtain ⟨geometry, phase, index, home, lag⟩ := PitchClock.afterReset_position sample.sensors
  exact ⟨geometry, phase, index, fun _ => home, fun _ => lag⟩

/-- Settles O57: act by act. -/
theorem stepKeepsPositionSound : Obligations.StepKeepsPositionSound := by
  unfold Obligations.StepKeepsPositionSound
  intro s t before h
  exact step_keeps Act.positionSound (fun s rest _ _ h => h.congr rfl) State.afterReset_positionSound
    (fun s rest h => h.congr rfl) (fun s p e rest h => h.congr (by simp)) (fun s h => h.congr rfl) before h

end Sys2Proof.Machine
end

section
/-!
PROOF. The allocators (R27, R28, R160): the lowest free slot, and the next number that is not held.
-/

namespace Sys2Proof.Machine

/-! ### Numbers going round -/

theorem numberAfter_eq_mod {top c : Nat} (hi : c ≤ top) : numberAfter top c = c % top + 1 := by
  unfold numberAfter
  split
  next last =>
    obtain rfl : c = top := by omega
    simp
  next before => rw [Nat.mod_eq_of_lt (Nat.not_le.1 before)]

theorem numberAfter_range {top : Nat} (pos : 0 < top) (n : Nat) :
    1 ≤ numberAfter top n ∧ numberAfter top n ≤ top := by
  unfold numberAfter
  split <;> omega

/-- The numbers from `c` on, going round. -/
theorem numberAfter_iterate {top c : Nat} (lo : 1 ≤ c) (hi : c ≤ top) (j : Nat) :
    (numberAfter top)^[j] c = (c - 1 + j) % top + 1 := by
  have pos : 0 < top := by omega
  induction j with
  | zero =>
    rw [Function.iterate_zero_apply, Nat.add_zero, Nat.mod_eq_of_lt (by omega)]
    omega
  | succ j ih =>
    have below := Nat.mod_lt (c - 1 + j) pos
    rw [Function.iterate_succ_apply', ih, numberAfter_eq_mod (by omega), Nat.mod_add_mod]
    rfl

/-- As many numbers as there are going round are distinct. -/
theorem numberAfter_injOn {top c : Nat} (lo : 1 ≤ c) (hi : c ≤ top) :
    Set.InjOn (fun j => (numberAfter top)^[j] c) (Set.Iio top) := by
  intro a below b below' same
  simp only [numberAfter_iterate lo hi, Nat.add_right_cancel_iff] at same
  have congruent : a ≡ b [MOD top] := Nat.ModEq.add_left_cancel' (c - 1) same
  exact congruent.eq_of_lt_of_lt below below'

/-- R28 and R160: the search ends at a number that is not held, or has used up its fuel; all before it are held. -/
theorem nextFree_spec (top : Nat) (held : List Nat) (fuel c : Nat) :
    ∃ k ≤ fuel, nextFree top held fuel c = (numberAfter top)^[k] c
      ∧ (∀ j < k, (numberAfter top)^[j] c ∈ held) ∧ (nextFree top held fuel c ∉ held ∨ k = fuel) := by
  induction fuel generalizing c with
  | zero => exact ⟨0, le_rfl, rfl, fun j below => absurd below (Nat.not_lt_zero j), .inr rfl⟩
  | succ fuel ih =>
    unfold nextFree
    split
    next isHeld =>
      obtain ⟨k, le, eq, before, ends⟩ := ih (numberAfter top c)
      refine ⟨k + 1, Nat.succ_le_succ le, eq, fun j below => ?_, ends.imp_right (congrArg Nat.succ)⟩
      cases j with
      | zero => exact isHeld
      | succ j => exact before j (Nat.lt_of_succ_lt_succ below)
    next free => exact ⟨0, Nat.zero_le _, rfl, fun j below => absurd below (Nat.not_lt_zero j), .inl free⟩

/-- With fewer numbers held than there are, the search finds the first free one. -/
theorem nextFree_first {top c : Nat} {held : List Nat} (lo : 1 ≤ c) (hi : c ≤ top) (few : held.length < top) :
    nextFree top held held.length c ∉ held ∧ ∃ k, nextFree top held held.length c = (numberAfter top)^[k] c
      ∧ ∀ j < k, (numberAfter top)^[j] c ∈ held := by
  obtain ⟨k, le, eq, before, ends⟩ := nextFree_spec top held held.length c
  refine ⟨?_, k, eq, before⟩
  obtain free | rfl := ends
  · exact free
  · intro last
    rw [eq] at last
    have inHeld : (Finset.range (held.length + 1)).image (fun j => (numberAfter top)^[j] c) ⊆ held.toFinset := by
      intro n mem
      obtain ⟨j, below, rfl⟩ := Finset.mem_image.1 mem
      rw [List.mem_toFinset]
      obtain less | same := Nat.lt_or_eq_of_le (Nat.lt_succ_iff.1 (Finset.mem_range.1 below))
      · exact before j less
      · exact same ▸ last
    have distinct : Set.InjOn (fun j => (numberAfter top)^[j] c) (Finset.range (held.length + 1)) :=
      (numberAfter_injOn lo hi).mono fun j below =>
        Nat.lt_of_lt_of_le (Finset.mem_range.1 below) few
    have counted := Finset.card_le_card inHeld
    rw [Finset.card_image_of_injOn distinct, Finset.card_range] at counted
    exact absurd (counted.trans (List.toFinset_card_le held)) (Nat.not_succ_le_self _)

/-- The allocator's number: not held, in range, and the first such after the last one given. -/
theorem allocated {top last : Nat} {held : List Nat} (few : held.length < top) :
    let n := nextFree top held held.length (numberAfter top last)
    n ∉ held ∧ 1 ≤ n ∧ n ≤ top ∧ ∃ k, n = (numberAfter top)^[k + 1] last
      ∧ ∀ j < k, (numberAfter top)^[j + 1] last ∈ held := by
  have pos : 0 < top := by omega
  obtain ⟨lo, hi⟩ := numberAfter_range pos last
  obtain ⟨free, k, eq, before⟩ := nextFree_first lo hi few
  refine ⟨free, ?_, ?_, k, eq, before⟩
  · rw [eq, numberAfter_iterate lo hi]
    omega
  · rw [eq, numberAfter_iterate lo hi]
    exact Nat.mod_lt _ pos

/-! ### Slots and serials -/

theorem BookTable.live_length_le (t : BookTable) : t.live.length ≤ Config.slotCount := by
  refine (List.length_filterMap_le id _).trans ?_
  rw [Vector.length_toList]

theorem BookTable.serials_few (t : BookTable) : t.serials.length < Config.topSerial := by
  unfold BookTable.serials
  rw [List.length_map]
  exact Nat.lt_of_le_of_lt t.live_length_le (by decide)

/-- R27: the lowest-numbered free slot takes the book. -/
theorem placeBook_eq_set {slots : Vector (Option Book) Config.slotCount} (b : Book) {n : Fin Config.slotCount}
    (free : slots[n] = none) (lower : ∀ j : Fin Config.slotCount, j < n → slots[j] ≠ none) :
    placeBook slots b = slots.set n (some b) := by
  have found : ((List.finRange Config.slotCount).find? fun i => slots[i].isNone) = some n := by
    rw [List.find?_eq_some_iff_getElem]
    refine ⟨by rw [free]; rfl, n, by simp, by simp, fun j below => ?_⟩
    simpa [Option.isSome_iff_ne_none] using lower ⟨j, below.trans n.isLt⟩ below
  rw [placeBook, found]

/-- Settles O14: the lowest free slot, and the first number going round that is not held. -/
theorem slotSerialAndLiftNumberAllocation : Obligations.SlotSerialAndLiftNumberAllocation := by
  unfold Obligations.SlotSerialAndLiftNumberAllocation
  refine ⟨⟨fun slots b n free lower => placeBook_eq_set b free lower, fun t => ?_⟩, fun l few => ?_⟩
  · exact allocated t.serials_few
  · refine allocated (top := Config.topLiftNumber) ?_
    rw [List.length_map]
    exact Nat.lt_of_le_of_lt few (by decide)

end Sys2Proof.Machine
end

section
/-!
PROOF. Every act keeps the bounds of the tables and the pots (R29 to R50, R114 to R122) and the serials (R28).
-/

namespace Sys2Proof.Machine

variable {i : Instr} {ph : Phase}

/-! ### What stands in the slots -/

/-- A record placed in a free slot joins those that stand. -/
theorem filterMap_set_perm {l : List (Option Book)} {n : Nat} (x : Book) (free : l[n]? = some none) :
    ((l.set n (some x)).filterMap id).Perm (x :: l.filterMap id) := by
  induction l generalizing n with
  | nil => simp at free
  | cons slot l ih =>
    cases n with
    | zero =>
      obtain rfl : slot = none := by simpa using free
      exact .refl _
    | succ n =>
      have rest := ih (n := n) (by simpa using free)
      cases slot with
      | none => exact rest
      | some b => exact (rest.cons b).trans (.swap ..)

/-- R27: a placed record joins the live books, or no slot was free. -/
theorem live_placeBook (t : BookTable) (x : Book) (n : Nat) :
    ({ t with slots := placeBook t.slots x, lastSerial := n } : BookTable).live.Perm (x :: t.live)
    ∨ ({ t with slots := placeBook t.slots x, lastSerial := n } : BookTable).live = t.live := by
  unfold placeBook BookTable.live
  split
  next m found =>
    have free := List.find?_some (p := fun i : Fin Config.slotCount => t.slots[i].isNone) found
    refine .inl ?_
    simp only [Vector.toList_set]
    refine filterMap_set_perm x ?_
    rw [List.getElem?_eq_getElem (by simp)]
    simpa using free
  next => exact .inr rfl

theorem mem_live_records {t : BookTable} {f : Book → Book} {b' : Book}
    (mem : b' ∈ ({ t with slots := t.slots.map fun slot => slot.map f } : BookTable).live) :
    ∃ b ∈ t.live, b' = f b := by
  obtain ⟨slot, stands, mapped⟩ : ∃ slot ∈ t.slots.toList, slot.map f = some b' := by
    simpa using BookTable.mem_live.1 mem
  obtain ⟨b, rfl, rfl⟩ := Option.map_eq_some_iff.1 mapped
  exact ⟨b, BookTable.mem_live.2 stands, rfl⟩

theorem live_free (t : BookTable) (n : Nat) :
    ({ t with slots := t.slots.map fun slot => slot.filter fun b => b.serial != n } : BookTable).live
      = t.live.filter fun b => b.serial != n :=
  ({ State.reset with books := t } : State).live_freeBook n

/-! ### Frames of the acts that change several blocks -/

theorem ModeAct.frame {s t : State} (act : ModeAct s t) :
    t.clock.geometry = s.clock.geometry ∧ t.books = s.books ∧ t.carousel.clampMap = s.carousel.clampMap
    ∧ t.delivery = s.delivery ∧ t.lifting = s.lifting ∧ t.glue = s.glue ∧ t.wires = s.wires := by
  cases act with
  | homing | home | hold | runout | setup | cleared | halted => and_intros <;> rfl
  | back kind ret mode =>
    refine ⟨(s.returnFromHold_position ret).1, ?_⟩
    simp

theorem State.beginReset_frame (s : State) (cause : ResetCause) :
    (s.beginReset cause).clock = s.clock ∧ (s.beginReset cause).books = s.books
    ∧ (s.beginReset cause).carousel = s.carousel ∧ (s.beginReset cause).delivery = s.delivery
    ∧ (s.beginReset cause).lifting = s.lifting ∧ (s.beginReset cause).glue = s.glue
    ∧ (s.beginReset cause).wires = s.wires := by
  unfold State.beginReset
  split
  · simp
  · and_intros <;> rfl

theorem ClockAct.geometry {c c' : PitchClock} (act : ClockAct i ph c c') : c'.geometry = c.geometry := by
  cases act with
  | advance => exact c.advance_geometry
  | lag | lagDown | marks | stations | restart | holdKind => rfl

/-! ### Tables -/

/-- The bounds of the Book Table. -/
structure BookTable.Bounded (t : BookTable) : Prop where
  announceQ : t.announceQ.length ≤ 8
  rejects : t.rejects.length ≤ 16
  overrun : t.overrun = true → t.rejects ≠ []
  samples : ∀ b ∈ t.live, b.SamplesBounded

theorem State.TablesSound.books {s : State} (h : s.TablesSound) : s.books.Bounded :=
  ⟨h.announceQ, h.rejects, h.overrun, h.samples⟩

theorem State.TablesSound.of_bounded {s t : State} (h : s.TablesSound) (books : t.books.Bounded)
    (clampMap : t.carousel.clampMap.length = t.clock.geometry.clampCount) (lifts : t.lifting.lifts.length ≤ 4)
    (wires : t.wires = s.wires) : t.TablesSound :=
  ⟨clampMap, books.announceQ, books.rejects, books.overrun, lifts, books.samples, by rw [wires]; exact h.bits⟩

theorem BookAct.bounded {t t' : BookTable} (act : BookAct ph t t') (h : t.Bounded) : t'.Bounded := by
  cases act with
  | records f becomes =>
    refine ⟨h.announceQ, h.rejects, h.overrun, fun b mem => ?_⟩
    obtain ⟨x, stands, rfl⟩ := mem_live_records mem
    exact (becomes x).samples (h.samples x stands)
  | place x intake serial samples =>
    refine ⟨h.announceQ, h.rejects, h.overrun, fun b mem => ?_⟩
    obtain joined | same := live_placeBook t x t.nextSerial
    · obtain rfl | stands := List.mem_cons.1 (joined.mem_iff.1 mem)
      · exact ⟨by simp [samples], by simp [samples]⟩
      · exact h.samples b stands
    · rw [same] at mem
      exact h.samples b mem
  | free n outlet =>
    refine ⟨h.announceQ, h.rejects, h.overrun, fun b mem => ?_⟩
    rw [live_free] at mem
    exact h.samples b (List.mem_of_mem_filter mem)
  | queue q timer short => exact ⟨short.elim (fun le => le.trans h.announceQ) id, h.rejects, h.overrun, h.samples⟩
  | append e =>
    refine ⟨h.announceQ, ?_, fun _ => List.append_ne_nil_of_right_ne_nil _ (by simp), h.samples⟩
    have rejects := h.rejects
    rw [List.length_append, List.length_singleton]
    split
    · rw [List.length_tail]; omega
    next room =>
      have below : t.rejects.length < 16 := Nat.not_le.1 room
      omega
  | take =>
    have rejects := h.rejects
    refine ⟨h.announceQ, (by simp; omega), fun overrun empty => ?_, h.samples⟩
    dsimp only at overrun empty
    rw [empty] at overrun
    contradiction
  | counters => exact ⟨h.announceQ, h.rejects, h.overrun, h.samples⟩

theorem LiftAct.lifts_le {d d' : List Nat} {l l' : LiftBuilder} (act : LiftAct d l d' l') (h : l.lifts.length ≤ 4) :
    l'.lifts.length ≤ 4 := by
  cases act with
  | start n height due kept noOpen head room =>
    have same : kept.length = l.lifts.length := by
      obtain ⟨-, rfl⟩ | ⟨o, -, rfl⟩ := noOpen
      · rfl
      · exact List.length_map _
    rw [List.length_append, same]
    exact room
  | join | close | dispatch | overdue => exact (List.length_map _).trans_le h
  | remove n => exact (List.length_filter_le _ _).trans h
  | limits => exact h

theorem Act.tablesSound {s t : State} (act : Act i ph s t) (h : s.TablesSound) : t.TablesSound := by
  cases act with
  | books t act => exact h.of_bounded (act.bounded h.books) h.clampMap h.lifts rfl
  | clock c act => exact h.of_bounded h.books (h.clampMap.trans (by rw [act.geometry])) h.lifts rfl
  | lifting d l act => exact h.of_bounded h.books h.clampMap (act.lifts_le h.lifts) rfl
  | mode t act =>
    obtain ⟨geometry, books, clampMap, -, lifting, -, wires⟩ := act.frame
    exact h.of_bounded (by rw [books]; exact h.books) (by rw [clampMap, geometry]; exact h.clampMap)
      (by rw [lifting]; exact h.lifts) wires
  | reset cause =>
    obtain ⟨clock, books, carousel, -, lifting, -, wires⟩ := s.beginReset_frame cause
    exact h.of_bounded (by rw [books]; exact h.books) (by rw [carousel, clock]; exact h.clampMap)
      (by rw [lifting]; exact h.lifts) wires
  | geometry f mode write range kept =>
    exact h.of_bounded h.books (h.clampMap.trans (kept _).1.symm) h.lifts rfl
  | clampCount n => exact h.of_bounded h.books List.length_replicate h.lifts rfl
  | pitchCounts => exact h.of_bounded h.books h.clampMap h.lifts rfl
  | fill | empty | deliver => exact h.of_bounded h.books (List.length_set.trans h.clampMap) h.lifts rfl
  | ports | cams | aside | carousel | glue | supply | lamps | further =>
    exact h.of_bounded h.books h.clampMap h.lifts rfl

/-! ### The lines of a port -/

theorem State.takeWire_of_held {s : State} {p : PortId} {e : WireEvent} (held : s.stoppage.held = true) :
    s.takeWire p e = s := State.whenRunning_held held

theorem State.takeWire_selectFall {s : State} {p : PortId} (running : s.stoppage.held = false) :
    s.takeWire p .selectFall = (s.setWire p { PortWire.rest with gap := s.gapEnd }).modifyPort p Port.beginFrame :=
  State.whenRunning_running running

theorem State.takeWire_clockRise {s : State} {p : PortId} {sdi : Bool} (running : s.stoppage.held = false) :
    s.takeWire p (.clockRise sdi) = s.clockBit p sdi := State.whenRunning_running running

theorem State.takeWire_clockFall {s : State} {p : PortId} (running : s.stoppage.held = false) :
    s.takeWire p .clockFall = s.driveBit p := State.whenRunning_running running

theorem State.takeWire_selectRise {s : State} {p : PortId} (running : s.stoppage.held = false) :
    s.takeWire p .selectRise = s.releaseSelect p := State.whenRunning_running running

/-- R190: an event on the lines of a port leaves fewer than eight bits of a byte at every port. -/
theorem State.setWire_bits {s : State} {p : PortId} {w : PortWire} (h : ∀ q : PortId, s.wires[q].bits.length < 8)
    (few : w.bits.length < 8) (q : PortId) : (s.setWire p w).wires[q].bits.length < 8 := by
  rw [State.setWire_wires]
  by_cases same : (p : Nat) = q
  · simpa [same] using few
  · simpa [Vector.getElem_set, same] using h q

theorem State.clockBit_bits {s : State} (p : PortId) (sdi : Bool) (h : ∀ q : PortId, s.wires[q].bits.length < 8)
    (q : PortId) : (s.clockBit p sdi).wires[q].bits.length < 8 := by
  unfold State.clockBit
  dsimp only
  split
  · exact h q
  · split
    next few => exact State.setWire_bits h few q
    next =>
      split
      · simpa [State.collectByte] using State.setWire_bits (p := p) (w := { s.edged p with bits := [] }) h (by simp) q
      · exact State.setWire_bits h (by simp) q

theorem State.takeWire_bits {s : State} (p : PortId) (e : WireEvent) (h : ∀ q : PortId, s.wires[q].bits.length < 8)
    (q : PortId) : (s.takeWire p e).wires[q].bits.length < 8 := by
  by_cases held : s.stoppage.held = true
  · rw [State.takeWire_of_held held]
    exact h q
  have running : s.stoppage.held = false := by simpa using held
  cases e with
  | selectFall =>
    rw [State.takeWire_selectFall running]
    exact State.setWire_bits (p := p) (w := { PortWire.rest with gap := s.gapEnd }) h (Nat.zero_lt_succ 7) q
  | clockRise sdi =>
    rw [State.takeWire_clockRise running]
    exact State.clockBit_bits p sdi h q
  | clockFall =>
    rw [State.takeWire_clockFall running, State.driveBit]
    split
    · exact h q
    · refine State.setWire_bits h ?_ q
      exact h p
  | selectRise =>
    rw [State.takeWire_selectRise running]
    exact State.setWire_bits (p := p) (w := PortWire.rest) h (Nat.zero_lt_succ 7) q

theorem State.afterReset_tablesSound (s : State) (sample : ResetSample) : (s.afterReset sample).TablesSound := by
  refine ⟨rfl, Nat.zero_le _, Nat.zero_le _, ?_, Nat.zero_le _, ?_, ?_⟩
  · simp [State.afterReset, State.reset, BookTable.afterReset]
  · simp [State.afterReset, State.reset, BookTable.afterReset, BookTable.live]
  · intro p
    simp [State.afterReset, State.reset, PortWire.rest]

/-! ### Pots -/

theorem State.PotsSound.congr {s t : State} (h : s.PotsSound) (glue : t.glue = s.glue) : t.PotsSound :=
  ⟨by rw [glue]; exact h.spine, by rw [glue]; exact h.side, by rw [glue]; exact h.spineEnabled⟩

theorem Act.potsSound {s t : State} (act : Act i ph s t) (h : s.PotsSound) : t.PotsSound := by
  cases act with
  | glue g sound => exact sound h
  | mode t act =>
    obtain ⟨-, -, -, -, -, glue, -⟩ := act.frame
    exact h.congr glue
  | reset cause =>
    obtain ⟨-, -, -, -, -, glue, -⟩ := s.beginReset_frame cause
    exact h.congr glue
  | ports | books | clock | cams | aside | carousel | lifting | supply | lamps | further | geometry | clampCount
  | pitchCounts | fill | empty | deliver => exact h.congr rfl

theorem Pot.afterReset_sound (low high : Nat) : (Pot.afterReset low high).Sound :=
  ⟨by simp [Pot.afterReset], by simp [Pot.afterReset], fun _ => rfl, fun _ => rfl, Nat.zero_le _⟩

/-- Settles O58: act by act, and the lines of the ports. -/
theorem stepKeepsTablesAndPotsSound : Obligations.StepKeepsTablesAndPotsSound := by
  unfold Obligations.StepKeepsTablesAndPotsSound
  refine ⟨fun s t before h => ?_, fun s t before h => ?_⟩
  · refine step_keeps Act.tablesSound ?_ State.afterReset_tablesSound ?_ ?_ ?_ before h
    · exact fun s rest _ _ h => h.of_bounded h.books h.clampMap h.lifts rfl
    · exact fun s rest h => h.of_bounded h.books h.clampMap h.lifts rfl
    · intro s p e rest h
      refine ⟨?_, ?_, ?_, ?_, ?_, ?_, State.takeWire_bits p e h.bits⟩
      all_goals simp only [State.takeWire_frame]
      · exact h.clampMap
      · exact h.announceQ
      · exact h.rejects
      · exact h.overrun
      · exact h.lifts
      · exact h.samples
    · exact fun s h => h.of_bounded h.books h.clampMap h.lifts rfl
  · exact step_keeps Act.potsSound (fun s rest _ _ h => h.congr rfl)
      (fun s sample => ⟨Pot.afterReset_sound _ _, Pot.afterReset_sound _ _, rfl⟩) (fun s rest h => h.congr rfl)
      (fun s p e rest h => h.congr (by simp)) (fun s h => h.congr rfl) before h

/-! ### Serials -/

theorem State.SerialsSound.congr {s t : State} (h : s.SerialsSound) (books : t.books.serials = s.books.serials) :
    t.SerialsSound :=
  ⟨by rw [books]; exact h.distinct, by rw [books]; exact h.range⟩

theorem BookAct.serialsSound {s : State} {t : BookTable} (act : BookAct ph s.books t) (h : s.SerialsSound) :
    ({ s with books := t } : State).SerialsSound := by
  cases act with
  | records f becomes =>
    refine h.congr (BookTable.live_map_serial fun slot => ?_)
    cases slot with
    | none => rfl
    | some b => exact congrArg some (becomes b).serial
  | place x intake serial samples =>
    obtain joined | same := live_placeBook s.books x s.books.nextSerial
    · obtain ⟨free, lo, hi, -⟩ := allocated (last := s.books.lastSerial) s.books.serials_few
      have serials := joined.map Book.serial
      rw [List.map_cons, serial] at serials
      refine ⟨serials.nodup_iff.2 (List.nodup_cons.2 ⟨free, h.distinct⟩), fun n mem => ?_⟩
      obtain rfl | stands := List.mem_cons.1 (serials.mem_iff.1 mem)
      · exact ⟨lo, hi⟩
      · exact h.range n stands
    · exact h.congr (congrArg (List.map Book.serial) same)
  | free n outlet =>
    have fewer : ({ s.books with slots := s.books.slots.map fun slot => slot.filter fun b => b.serial != n }
        : BookTable).serials.Sublist s.books.serials := by
      unfold BookTable.serials
      rw [live_free]
      exact List.filter_sublist.map _
    exact ⟨h.distinct.sublist fewer, fun n mem => h.range n (fewer.subset mem)⟩
  | queue | append | take | counters => exact h.congr rfl

theorem Act.serialsSound {s t : State} (act : Act i ph s t) (h : s.SerialsSound) : t.SerialsSound := by
  cases act with
  | books t act => exact act.serialsSound h
  | mode t act => exact h.congr (by rw [act.books])
  | reset cause => exact h.congr (by rw [s.beginReset_books])
  | ports | clock | cams | aside | carousel | glue | lifting | supply | lamps | further | geometry | clampCount
  | pitchCounts | fill | empty | deliver => exact h.congr rfl

theorem BookTable.afterReset_serials : BookTable.afterReset.serials = [] := by
  simp [BookTable.serials, BookTable.afterReset, BookTable.live]

/-- Settles O59: act by act; a record is placed under the allocator's serial. -/
theorem stepKeepsSerialsSound : Obligations.StepKeepsSerialsSound := by
  unfold Obligations.StepKeepsSerialsSound
  intro s t before h
  refine step_keeps Act.serialsSound (fun s rest _ _ h => h.congr rfl) (fun s sample => ?_)
    (fun s rest h => h.congr rfl) (fun s p e rest h => h.congr (by simp)) (fun s h => h.congr rfl) before h
  have empty : (s.afterReset sample).books.serials = [] := BookTable.afterReset_serials
  exact ⟨by simp [empty], by simp [empty]⟩

end Sys2Proof.Machine
end

section
/-!
PROOF. Every act keeps the lift list in its form and occupancy within the downstream capacity (R52, R87, R158 to R162).
-/

namespace Sys2Proof.Machine

variable {i : Instr} {ph : Phase}

/-! ### Lists of lifts -/

/-- R158: two OPEN lifts of a list in order are one. -/
theorem opened_unique {lifts : List Lift}
    (order : lifts.Pairwise fun a b => a.state ≠ .opened ∧ b.state ≠ .dispatched) {a b : Lift} (ha : a ∈ lifts)
    (hb : b ∈ lifts) (openA : a.state = .opened) (openB : b.state = .opened) : a = b := by
  rw [List.pairwise_iff_getElem] at order
  obtain ⟨m, hm, rfl⟩ := List.getElem_of_mem ha
  obtain ⟨n, hn, rfl⟩ := List.getElem_of_mem hb
  obtain below | rfl | above := Nat.lt_trichotomy m n
  · exact absurd openA (order m n hm hn below).1
  · rfl
  · exact absurd openB (order n m hn hm above).1

/-- R158: a change of lifts that makes none OPEN and none DISPATCHED keeps their order. -/
theorem order_map {lifts : List Lift} {f : Lift → Lift}
    (order : lifts.Pairwise fun a b => a.state ≠ .opened ∧ b.state ≠ .dispatched)
    (opened : ∀ m, (f m).state = .opened → m.state = .opened)
    (dispatched : ∀ m, (f m).state = .dispatched → m.state = .dispatched) :
    (lifts.map f).Pairwise fun a b => a.state ≠ .opened ∧ b.state ≠ .dispatched := by
  rw [List.pairwise_map]
  exact order.imp fun ⟨a, b⟩ => ⟨fun h => a (opened _ h), fun h => b (dispatched _ h)⟩

theorem number_map {lifts : List Lift} {f : Lift → Lift} (kept : ∀ m, (f m).number = m.number) :
    (lifts.map f).map Lift.number = lifts.map Lift.number := by
  rw [List.map_map]
  exact List.map_congr_left fun m _ => kept m

/-- R160: a lift is known by its number. -/
theorem eq_of_number {lifts : List Lift} (numbers : (lifts.map Lift.number).Nodup) {a b : Lift} (ha : a ∈ lifts)
    (hb : b ∈ lifts) (same : a.number = b.number) : a = b := List.inj_on_of_nodup_map numbers ha hb same

/-- A change of the books of one lift changes the count of books by as much. -/
theorem bookCount_map {lifts : List Lift} (numbers : (lifts.map Lift.number).Nodup) {o : Lift} (mem : o ∈ lifts)
    (f : Lift → Lift) :
    ((lifts.map fun m => if m.number = o.number then f m else m).map fun x => x.books.length).sum + o.books.length
      = (lifts.map fun x => x.books.length).sum + (f o).books.length := by
  induction lifts with
  | nil => contradiction
  | cons m l ih =>
    obtain ⟨other, numbers⟩ := List.nodup_cons.1 numbers
    obtain rfl | mem := List.mem_cons.1 mem
    · have rest : (l.map fun m => if m.number = o.number then f m else m) = l := by
        refine (List.map_congr_left fun m mem => ?_).trans (List.map_id l)
        exact if_neg fun same => other (List.mem_map.2 ⟨m, mem, same⟩)
      simp only [List.map_cons, if_true, rest, List.sum_cons]
      omega
    · have differs : m.number ≠ o.number := fun same => other (List.mem_map.2 ⟨o, mem, same.symm⟩)
      have ih := ih numbers mem
      simp only [List.map_cons, if_neg differs, List.sum_cons]
      omega

theorem books_map {lifts : List Lift} {f : Lift → Lift} (kept : ∀ m, (f m).books = m.books) :
    ((lifts.map f).map fun x => x.books.length) = lifts.map fun x => x.books.length := by
  rw [List.map_map]
  exact List.map_congr_left fun m _ => congrArg List.length (kept m)

/-! ### One lift act -/

/-- R158 to R161: the form of the lift list, by itself. -/
structure LiftBuilder.Sound (l : LiftBuilder) : Prop where
  lifts : l.lifts.length ≤ 4
  numbers : (l.lifts.map Lift.number).Nodup
  order : l.lifts.Pairwise fun a b => a.state ≠ .opened ∧ b.state ≠ .dispatched
  windowTimer : ∀ m ∈ l.lifts, (m.windowTimer.isSome = true ↔ m.state = .opened)
  trimTimer : ∀ m ∈ l.lifts, m.trimTimer.isSome = true → m.state = .dispatched
  counts : ∀ m ∈ l.lifts, 1 ≤ m.books.length ∧ m.books.length ≤ l.limits.maxCount
  maxCount : 1 ≤ l.limits.maxCount

theorem State.liftsSound_iff {s : State} : s.LiftsSound ↔ s.lifting.Sound :=
  ⟨fun ⟨a, b, c, d, e, f, g⟩ => ⟨a, b, c, d, e, f, g⟩, fun ⟨a, b, c, d, e, f, g⟩ => ⟨a, b, c, d, e, f, g⟩⟩

/-- R159: a change that keeps a lift's number sound, where each changed lift is. -/
theorem LiftBuilder.Sound.map {l : LiftBuilder} {f : Lift → Lift} (h : l.Sound)
    (number : ∀ m, (f m).number = m.number)
    (order : (l.lifts.map f).Pairwise fun a b => a.state ≠ .opened ∧ b.state ≠ .dispatched)
    (each : ∀ m ∈ l.lifts, ((f m).windowTimer.isSome = true ↔ (f m).state = .opened)
      ∧ ((f m).trimTimer.isSome = true → (f m).state = .dispatched)
      ∧ 1 ≤ (f m).books.length ∧ (f m).books.length ≤ l.limits.maxCount) :
    ({ l with lifts := l.lifts.map f } : LiftBuilder).Sound where
  lifts := (List.length_map _).trans_le h.lifts
  numbers := by rw [number_map number]; exact h.numbers
  order := order
  windowTimer := List.forall_mem_map.2 fun m mem => (each m mem).1
  trimTimer := List.forall_mem_map.2 fun m mem => (each m mem).2.1
  counts := List.forall_mem_map.2 fun m mem => (each m mem).2.2
  maxCount := h.maxCount

section Lifts

variable {l : LiftBuilder} (h : l.Sound)
include h

theorem LiftBuilder.Sound.join {o : Lift} (n height due : Nat) (isOpen : l.openLift = some o)
    (room : o.books.length < l.limits.maxCount) :
    ({ l with lifts := l.lifts.map fun m => if m.number = o.number then { m with
      books := m.books ++ [n], height := m.height + height,
      windowTimer := some due } else m } : LiftBuilder).Sound := by
  obtain ⟨mem, opened⟩ := LiftBuilder.openLift_mem isOpen
  refine h.map (fun m => by split <;> rfl) (order_map h.order (fun m => ?_) fun m => ?_) fun m hm => ?_
  · split <;> exact id
  · split <;> exact id
  · split
    next same =>
      obtain rfl := eq_of_number h.numbers hm mem same
      refine ⟨by simp [opened], h.trimTimer m hm, ?_⟩
      simp only [List.length_append, List.length_singleton]
      omega
    next => exact ⟨h.windowTimer m hm, h.trimTimer m hm, h.counts m hm⟩

theorem LiftBuilder.Sound.close {o : Lift} (mem : o ∈ l.lifts) (opened : o.state = .opened) :
    ({ l with lifts := closeIn o.number l.lifts } : LiftBuilder).Sound := by
  refine h.map (fun m => by split <;> rfl) (order_map h.order (fun m => ?_) fun m => ?_) fun m hm => ?_
  · split
    · exact fun closed => by contradiction
    · exact id
  · split
    · exact fun closed => by contradiction
    · exact id
  · split
    next same =>
      obtain rfl := eq_of_number h.numbers hm mem same
      refine ⟨by simp, fun runs => ?_, h.counts m hm⟩
      exact absurd (opened.symm.trans (h.trimTimer m hm runs)) (by simp)
    next => exact ⟨h.windowTimer m hm, h.trimTimer m hm, h.counts m hm⟩

theorem LiftBuilder.Sound.overdue (n : Nat) :
    ({ l with lifts := l.lifts.map fun m =>
      if m.number = n then { m with overdue := true, trimTimer := none } else m } : LiftBuilder).Sound := by
  refine h.map (fun m => by split <;> rfl) (order_map h.order (fun m => ?_) fun m => ?_) fun m hm => ?_
  · split <;> exact id
  · split <;> exact id
  · split
    · exact ⟨h.windowTimer m hm, fun runs => by contradiction, h.counts m hm⟩
    · exact ⟨h.windowTimer m hm, h.trimTimer m hm, h.counts m hm⟩

/-- R158: with none DISPATCHED, the oldest CLOSED lift stands at the head. -/
theorem LiftBuilder.Sound.oldestClosed_head {c : Lift} (none_ : l.dispatched = none)
    (oldest : l.oldestClosed = some c) : ∃ rest, l.lifts = c :: rest ∧ c.state = .closed := by
  unfold LiftBuilder.dispatched at none_
  unfold LiftBuilder.oldestClosed at oldest
  have order := h.order
  cases lifts : l.lifts with
  | nil => simp [lifts] at oldest
  | cons m rest =>
    rw [lifts] at oldest none_ order
    cases state : m.state with
    | opened =>
      cases rest with
      | nil => simp [state] at oldest
      | cons x rest => exact absurd state ((List.pairwise_cons.1 order).1 x (List.mem_cons_self ..)).1
    | closed =>
      obtain rfl : m = c := by simpa [state] using oldest
      exact ⟨rest, rfl, state⟩
    | dispatched => simp [state] at none_

theorem LiftBuilder.Sound.dispatch {c : Lift} (due : Nat) (none_ : l.dispatched = none)
    (oldest : l.oldestClosed = some c) :
    ({ l with lifts := l.lifts.map fun m => if m.number = c.number then
      { m with state := .dispatched, overdue := false, trimTimer := some due } else m } : LiftBuilder).Sound := by
  obtain ⟨rest, lifts, closed⟩ := h.oldestClosed_head none_ oldest
  have mem : c ∈ l.lifts := by rw [lifts]; exact List.mem_cons_self ..
  refine h.map (fun m => by split <;> rfl) ?_ fun m hm => ?_
  · have order := h.order
    have numbers := h.numbers
    rw [lifts] at order numbers ⊢
    obtain ⟨other, -⟩ := List.nodup_cons.1 numbers
    obtain ⟨behind, order⟩ := List.pairwise_cons.1 order
    have same : (rest.map fun m => if m.number = c.number then
        { m with state := .dispatched, overdue := false, trimTimer := some due } else m) = rest := by
      refine (List.map_congr_left fun m mem => ?_).trans (List.map_id rest)
      exact if_neg fun same => other (List.mem_map.2 ⟨m, mem, same⟩)
    rw [List.map_cons, same, if_pos rfl]
    exact List.pairwise_cons.2 ⟨fun m mem => ⟨by simp, (behind m mem).2⟩, order⟩
  · split
    next same =>
      obtain rfl := eq_of_number h.numbers hm mem same
      have stopped := h.windowTimer m hm
      rw [closed] at stopped
      exact ⟨by simpa using stopped, fun _ => rfl, h.counts m hm⟩
    next => exact ⟨h.windowTimer m hm, h.trimTimer m hm, h.counts m hm⟩

/-- R163: a new lift at the tail of a list in which none is OPEN. -/
theorem LiftBuilder.Sound.append (n height due : Nat) (room : l.lifts.length < 4)
    (noOpen : ∀ m ∈ l.lifts, m.state ≠ .opened) :
    ({ l with
      lifts := l.lifts ++ [{ number := l.nextNumber, state := .opened, books := [n], height := height, overdue := false,
                             windowTimer := some due, trimTimer := none }]
      lastNumber := l.nextNumber } : LiftBuilder).Sound := by
  have few : (l.lifts.map Lift.number).length < Config.topLiftNumber := by
    rw [List.length_map]
    exact room.trans (by decide)
  obtain ⟨free, -⟩ := allocated (last := l.lastNumber) few
  refine ⟨by simpa using room, ?_, ?_, ?_, ?_, ?_, h.maxCount⟩
  · rw [List.map_append]
    exact List.nodup_append_comm.1 (List.nodup_cons.2 ⟨free, h.numbers⟩)
  · refine List.pairwise_append.2 ⟨h.order, List.pairwise_singleton _ _, fun a ha b hb => ?_⟩
    obtain rfl := List.mem_singleton.1 hb
    exact ⟨noOpen a ha, by simp⟩
  all_goals
    intro m mem
    obtain old | new := List.mem_append.1 mem
  · exact h.windowTimer m old
  · obtain rfl := List.mem_singleton.1 new
    simp
  · exact h.trimTimer m old
  · obtain rfl := List.mem_singleton.1 new
    simp
  · exact h.counts m old
  · obtain rfl := List.mem_singleton.1 new
    exact ⟨le_rfl, h.maxCount⟩

theorem LiftBuilder.Sound.remove (n : Nat) :
    ({ l with lifts := l.lifts.filter fun m => m.number != n } : LiftBuilder).Sound := by
  have sub := List.filter_sublist (l := l.lifts) (p := fun m => m.number != n)
  exact ⟨(List.length_filter_le _ _).trans h.lifts, h.numbers.sublist (sub.map _), h.order.sublist sub,
    fun m mem => h.windowTimer m (sub.subset mem), fun m mem => h.trimTimer m (sub.subset mem),
    fun m mem => h.counts m (sub.subset mem), h.maxCount⟩

end Lifts

theorem closeIn_books (n : Nat) (lifts : List Lift) :
    ((closeIn n lifts).map fun x => x.books.length) = lifts.map fun x => x.books.length :=
  books_map fun m => by split <;> rfl

/-- Closing keeps the numbers, and so the number that is given next. -/
theorem nextNumber_closeIn (l : LiftBuilder) (n : Nat) :
    ({ l with lifts := closeIn n l.lifts } : LiftBuilder).nextNumber = l.nextNumber := by
  unfold LiftBuilder.nextNumber
  simp only [closeIn_numbers]

/-- R162: once the OPEN lift is closed, none is OPEN. -/
theorem LiftBuilder.Sound.noOpen_closeIn {l : LiftBuilder} (h : l.Sound) {o : Lift} (isOpen : l.openLift = some o) :
    ∀ m ∈ closeIn o.number l.lifts, m.state ≠ .opened := by
  obtain ⟨mem, opened⟩ := LiftBuilder.openLift_mem isOpen
  intro m hm
  obtain ⟨x, hx, rfl⟩ := List.mem_map.1 hm
  split
  · simp
  next other =>
    intro openX
    exact other (congrArg Lift.number (opened_unique h.order hx mem openX opened))

/-- R163: a new lift keeps the list in its form; the OPEN one closes first. -/
theorem LiftBuilder.Sound.start {l : LiftBuilder} (h : l.Sound) (n height due : Nat) {kept : List Lift}
    (noOpen : (l.openLift = none ∧ kept = l.lifts) ∨ ∃ o, l.openLift = some o ∧ kept = closeIn o.number l.lifts)
    (room : l.lifts.length < 4) :
    ({ l with
      lifts := kept ++ [{ number := l.nextNumber, state := .opened, books := [n], height := height, overdue := false,
                             windowTimer := some due, trimTimer := none }]
      lastNumber := l.nextNumber } : LiftBuilder).Sound := by
  obtain ⟨none_, rfl⟩ | ⟨o, isOpen, rfl⟩ := noOpen
  · refine h.append n height due room fun m mem opened => ?_
    simpa [opened] using List.find?_eq_none.1 none_ m mem
  · obtain ⟨mem, opened⟩ := LiftBuilder.openLift_mem isOpen
    have started := (h.close mem opened).append n height due
      ((List.length_map _).trans_lt room) (h.noOpen_closeIn isOpen)
    rw [nextNumber_closeIn] at started
    exact started

theorem LiftAct.sound {d d' : List Nat} {l l' : LiftBuilder} (act : LiftAct d l d' l') (h : l.Sound) : l'.Sound := by
  cases act with
  | join o n height due isOpen head room => exact h.join n height due isOpen room
  | start n height due kept noOpen head room => exact h.start n height due noOpen room
  | close o mem isOpen => exact h.close mem isOpen
  | dispatch c due none_ oldest => exact h.dispatch due none_ oldest
  | overdue n => exact h.overdue n
  | remove n => exact h.remove n
  | limits x empty count =>
    exact ⟨h.lifts, h.numbers, h.order, h.windowTimer, h.trimTimer, by simp [empty], count h.maxCount⟩

theorem length_tail_add_one {d : List Nat} (head : d ≠ []) : d.tail.length + 1 = d.length := by
  cases d with
  | nil => contradiction
  | cons => rfl

/-- R52: a book that leaves the delivery queue for a lift is counted as before, and no act adds one. -/
theorem LiftAct.count_le {d d' : List Nat} {l l' : LiftBuilder} (act : LiftAct d l d' l') (h : l.Sound) :
    d'.length + l'.bookCount ≤ d.length + l.bookCount := by
  unfold LiftBuilder.bookCount
  cases act with
  | join o n height due isOpen head room =>
    have counted := bookCount_map h.numbers (LiftBuilder.openLift_mem isOpen).1 fun m => { m with
      books := m.books ++ [n], height := m.height + height, windowTimer := some due }
    have tail := length_tail_add_one head
    simp only [List.length_append, List.length_singleton] at counted ⊢
    omega
  | start n height due kept noOpen head room =>
    have same : (kept.map fun x => x.books.length) = l.lifts.map fun x => x.books.length := by
      obtain ⟨-, rfl⟩ | ⟨o, -, rfl⟩ := noOpen
      · rfl
      · exact closeIn_books _ _
    have tail := length_tail_add_one head
    simp only [List.map_append, same, List.sum_append, List.map_singleton, List.sum_singleton, List.length_singleton]
    omega
  | close o => exact (congrArg (_ + List.sum ·) (closeIn_books _ _)).le
  | dispatch c due =>
    exact (congrArg (_ + List.sum ·) (books_map fun m => by split <;> rfl)).le
  | overdue n => exact (congrArg (_ + List.sum ·) (books_map fun m => by split <;> rfl)).le
  | remove n =>
    have sub := (List.filter_sublist (l := l.lifts) (p := fun m => m.number != n)).map fun x : Lift => x.books.length
    exact Nat.add_le_add_left (sub.sum_le_sum fun _ _ => Nat.zero_le _) _
  | limits => exact le_rfl

/-! ### Occupancy -/

theorem State.OccupancySound.of_le {s t : State} (h : s.OccupancySound)
    (occupancy : t.occupancy ≤ s.occupancy) (capacity : t.clock.geometry.capacity = s.clock.geometry.capacity)
    (lifting : t.lifting = s.lifting) : t.OccupancySound :=
  ⟨by rw [capacity]; exact occupancy.trans h.bound,
    State.liftsSound_iff.2 (by rw [lifting]; exact State.liftsSound_iff.1 h.lifts)⟩

theorem State.OccupancySound.congr {s t : State} (h : s.OccupancySound)
    (clampMap : t.carousel.clampMap = s.carousel.clampMap) (delivery : t.delivery = s.delivery)
    (capacity : t.clock.geometry.capacity = s.clock.geometry.capacity) (lifting : t.lifting = s.lifting) :
    t.OccupancySound := by
  refine h.of_le (le_of_eq ?_) capacity lifting
  simp only [State.occupancy, Carousel.occupied, clampMap, delivery, lifting]

theorem occupied_set_none (l : List (Option Nat)) (clamp : Nat) :
    (l.set clamp none).countP Option.isSome ≤ l.countP Option.isSome := by
  by_cases inside : clamp < l.length
  · rw [List.countP_set inside]
    simp
  · rw [List.set_eq_of_length_le (Nat.not_lt.1 inside)]

theorem occupied_set_some (l : List (Option Nat)) (clamp n : Nat) :
    (l.set clamp (some n)).countP Option.isSome ≤ l.countP Option.isSome + 1 := by
  by_cases inside : clamp < l.length
  · rw [List.countP_set inside]
    simp
  · rw [List.set_eq_of_length_le (Nat.not_lt.1 inside)]
    exact Nat.le_succ _

/-- R95: the clamp a book leaves is counted no more. -/
theorem occupied_set_none_of_full {l : List (Option Nat)} {clamp m : Nat} (full : l[clamp]?.join = some m) :
    (l.set clamp none).countP Option.isSome + 1 = l.countP Option.isSome := by
  obtain ⟨inside, entry⟩ := List.getElem?_eq_some_iff.1 (Option.join_eq_some_iff.1 full)
  have positive : 0 < l.countP Option.isSome :=
    List.countP_pos_iff.2 ⟨some m, entry ▸ List.getElem_mem inside, rfl⟩
  rw [List.countP_set inside, entry]
  simp only [Option.isSome_some, Option.isSome_none, if_true, Bool.false_eq_true, if_false]
  omega

theorem Act.occupancySound {s t : State} (act : Act i ph s t) (h : s.OccupancySound) : t.OccupancySound := by
  cases act with
  | clock c act => exact h.congr rfl rfl (congrArg Geometry.capacity act.geometry) rfl
  | lifting d l act =>
    have lifts := State.liftsSound_iff.1 h.lifts
    have fewer := act.count_le lifts
    refine ⟨(?_ : _ ≤ s.occupancy).trans h.bound, State.liftsSound_iff.2 (act.sound lifts)⟩
    simp only [State.occupancy, Nat.add_assoc]
    omega
  | mode t act =>
    obtain ⟨geometry, -, clampMap, delivery, lifting, -, -⟩ := act.frame
    exact h.congr clampMap delivery (congrArg Geometry.capacity geometry) lifting
  | reset cause =>
    obtain ⟨clock, -, carousel, delivery, lifting, -, -⟩ := s.beginReset_frame cause
    exact h.congr (congrArg _ carousel) delivery (by rw [clock]) lifting
  | geometry f mode write range kept capacity =>
    have lifts := State.liftsSound_iff.1 h.lifts
    exact ⟨capacity h.bound, State.liftsSound_iff.2 lifts⟩
  | clampCount n =>
    refine h.of_le ?_ rfl rfl
    have none_ : (List.replicate n (none : Option Nat)).countP Option.isSome = 0 := by
      rw [List.countP_eq_zero]
      intro entry mem
      rw [List.eq_of_mem_replicate mem]
      simp
    simp only [State.occupancy, State.writeClampCount, Carousel.occupied, none_, State.setGeo_frame]
    omega
  | fill clamp n count intake mode room =>
    have lifts := State.liftsSound_iff.1 h.lifts
    refine ⟨?_, State.liftsSound_iff.2 lifts⟩
    have one := occupied_set_some s.carousel.clampMap clamp n
    simp only [State.occupancy, Carousel.occupied] at room ⊢
    omega
  | empty clamp =>
    refine h.of_le ?_ rfl rfl
    have fewer := occupied_set_none s.carousel.clampMap clamp
    simp only [State.occupancy, Carousel.occupied]
    omega
  | deliver clamp n m full =>
    refine h.of_le ?_ rfl rfl
    have one := occupied_set_none_of_full full
    simp only [State.occupancy, Carousel.occupied, List.length_append, List.length_singleton]
    omega
  | ports | books | cams | aside | carousel | glue | supply | lamps | further | pitchCounts =>
    exact h.congr rfl rfl rfl rfl

theorem State.afterReset_occupancySound (s : State) (sample : ResetSample) : (s.afterReset sample).OccupancySound := by
  have lifts : (s.afterReset sample).lifting.lifts = [] := rfl
  refine ⟨Nat.zero_le _, State.liftsSound_iff.2 ⟨?_, ?_, ?_, ?_, ?_, ?_, Nat.le_add_left 1 7⟩⟩
  all_goals simp [lifts]

/-- Settles O60: act by act. -/
theorem stepKeepsOccupancySound : Obligations.StepKeepsOccupancySound := by
  unfold Obligations.StepKeepsOccupancySound
  intro s t before h
  exact step_keeps Act.occupancySound (fun s rest _ _ h => h.congr rfl rfl rfl rfl) State.afterReset_occupancySound
    (fun s rest h => h.congr rfl rfl rfl rfl) (fun s p e rest h => h.congr (by simp) (by simp) (by simp) (by simp))
    (fun s h => h.congr rfl rfl rfl rfl) before h

end Sys2Proof.Machine
end

section
/-!
PROOF. Idle milliseconds (entry 1) and resets (R185 to R187).
-/

namespace Sys2Proof.Machine

/-! ### Idle milliseconds -/

theorem mem_whenDue {i event : Instr} {condition : Bool} :
    i ∈ whenDue condition event ↔ condition = true ∧ i = event := by
  cases condition <;> simp [whenDue]

theorem Pot.mem_dueEvents {i : Instr} {now : Nat} {id : PotId} {p : Pot} : i ∈ p.dueEvents now id ↔
    (isDue now p.settle = true ∧ i = .settleExpiry id) ∨ (isDue now p.heatUp = true ∧ i = .heatUpExpiry id)
    ∨ (isDue now p.stale = true ∧ i = .staleExpiry id) := by
  simp only [Pot.dueEvents, List.mem_append, mem_whenDue, or_assoc]

theorem Book.mem_dueEvents {i : Instr} {now : Nat} {b : Book} : i ∈ b.dueEvents now ↔
    (isDue now (b.openTime.map OpenTimer.due) = true ∧ i = .openTimeExpiry (BitVec.ofNat 16 b.serial))
    ∨ ((b.state = .cooling ∧ isDue now b.coolingDeadline = true) ∧ i = .coolingExpiry (BitVec.ofNat 16 b.serial)) := by
  simp only [Book.dueEvents, List.mem_append, mem_whenDue, Bool.and_eq_true, beq_iff_eq]

theorem SupplyMonitor.mem_dueEvents {i : Instr} {m : SupplyMonitor} :
    i ∈ m.dueEvents ↔ m = .dipping false ∧ i = .supplyEvent := by
  unfold SupplyMonitor.dueEvents
  split
  · simp
  · simp
  · simp

/-- The events an idle millisecond posts, block by block. -/
theorem State.mem_dueEvents {i : Instr} {now : Nat} {s : State} : i ∈ s.dueEvents now ↔
    (∃ n, isDue now s.clock.sensors[sensorIndex n].pending = true ∧ i = .debounceExpiry n)
    ∨ (isDue now s.clock.standstillTimer = true ∧ i = .standstillExpiry)
    ∨ (isDue now s.books.sealTimer = true ∧ i = .sealTimerExpiry)
    ∨ (∃ id, i ∈ (s.glue.pot id).dueEvents now id) ∨ (∃ b ∈ s.books.live, i ∈ b.dueEvents now)
    ∨ ((∃ l ∈ s.lifting.lifts, isDue now l.windowTimer = true) ∧ i = .windowTimerExpiry)
    ∨ ((∃ l ∈ s.lifting.lifts, isDue now l.trimTimer = true) ∧ i = .trimTimerExpiry)
    ∨ (s.stoppage.supply = .dipping false ∧ i = .supplyEvent)
    ∨ (isDue now s.stoppage.lampA.toggleAt = true ∧ i = .lampFlashToggle .a)
    ∨ (isDue now s.stoppage.lampB.toggleAt = true ∧ i = .lampFlashToggle .b)
    ∨ ∃ p, i ∈ s.portDueEvents now p := by
  have sensors : (∃ n ∈ [Sensor.block, .home, .jamA, .jamB],
      isDue now s.clock.sensors[sensorIndex n].pending = true ∧ i = .debounceExpiry n)
      ↔ ∃ n, isDue now s.clock.sensors[sensorIndex n].pending = true ∧ i = .debounceExpiry n :=
    ⟨fun ⟨n, _, h⟩ => ⟨n, h⟩, fun ⟨n, h⟩ => ⟨n, by cases n <;> simp, h⟩⟩
  have pots : (i ∈ s.glue.spine.dueEvents now .spine ∨ i ∈ s.glue.side.dueEvents now .side)
      ↔ ∃ id, i ∈ (s.glue.pot id).dueEvents now id :=
    ⟨fun h => h.elim (fun h => ⟨.spine, h⟩) fun h => ⟨.side, h⟩, fun ⟨id, h⟩ => by
      cases id
      · exact .inl h
      · exact .inr h⟩
  unfold State.dueEvents
  rw [← sensors, ← pots]
  simp only [List.mem_append, List.mem_flatMap, mem_whenDue, SupplyMonitor.mem_dueEvents, List.any_eq_true,
    List.mem_finRange, true_and, or_assoc]

/-- Settles O2: the millisecond's events, sorted by their kind. -/
theorem idlePostsTheExpiriesDue : Obligations.IdlePostsTheExpiriesDue := by
  unfold Obligations.IdlePostsTheExpiriesDue
  refine ⟨fun s noCommand noEvent => ⟨s.idle, by rw [step, noCommand, noEvent], rfl, ?_, ?_⟩,
    fun s p e rest noCommand front => by rw [step, noCommand, front]⟩
  · intro held
    simp [State.idle, held]
  · intro running i
    have posted : s.idle.pending = s.dueEvents (s.now + 1) := by simp [State.idle, running]
    have found := State.mem_dueEvents (i := i) (now := s.now + 1) (s := s)
    simp only [Pot.mem_dueEvents, Book.mem_dueEvents, State.mem_portDueEvents, isDue_iff] at found
    rw [posted, found]
    clear found posted
    cases i with
    | debounceExpiry n | standstillExpiry | sealTimerExpiry | settleExpiry id | heatUpExpiry id | staleExpiry id
    | windowTimerExpiry | trimTimerExpiry | supplyEvent =>
      simp only [Instr.debounceExpiry.injEq, Instr.settleExpiry.injEq, Instr.heatUpExpiry.injEq,
        Instr.staleExpiry.injEq, reduceCtorEq, and_false, false_and, and_true, or_false,
        false_or, exists_false, exists_eq_right']
    | openTimeExpiry n =>
      simp only [Instr.openTimeExpiry.injEq, reduceCtorEq, false_and, or_false, false_or, exists_false,
        eq_comm (a := n), and_comm]
    | coolingExpiry n =>
      simp only [Instr.coolingExpiry.injEq, reduceCtorEq, false_and, or_false, false_or, exists_false,
        eq_comm (a := n), and_comm]
    | lampFlashToggle lamp =>
      cases lamp <;>
        simp only [Instr.lampFlashToggle.injEq, reduceCtorEq, and_false, false_and, and_true, or_false, false_or,
          exists_false]
    | frameAbandon p bytes =>
      simp only [Instr.frameAbandon.injEq, reduceCtorEq, and_false, false_and, or_false, false_or, exists_false,
        and_assoc, exists_eq_left']
      tauto
    | attnPulseEnd p =>
      simp only [Instr.attnPulseEnd.injEq, reduceCtorEq, and_false, false_and, false_or, exists_false,
        exists_eq_left']
    | _ => simp only [reduceCtorEq, and_false, false_and, or_false, exists_false]

/-! ### Resets -/

/-- R185: a reset begins. -/
theorem State.beginReset_running {s : State} (cause : ResetCause) (running : s.stoppage.held = false) :
    s.beginReset cause = { s with
      stoppage := { s.stoppage with held := true, resetCause := cause, asserted := [cause] }
      ports := s.ports.map fun q =>
        { q with frame := .idle, collected := [], snapshot := none, taking := none, pulse := none } } := by
  rw [State.beginReset, running]
  rfl

theorem State.beginReset_standing {s : State} {cause : ResetCause} (held : s.stoppage.held = true)
    (stands : cause ∈ s.stoppage.asserted) : s.beginReset cause = s := by
  rw [State.beginReset, if_pos held, State.assertReset, if_pos stands]

theorem State.beginReset_joining {s : State} {cause : ResetCause} (held : s.stoppage.held = true)
    (joins : cause ∉ s.stoppage.asserted) :
    s.beginReset cause = { s with stoppage := { s.stoppage with asserted := s.stoppage.asserted ++ [cause] } } := by
  rw [State.beginReset, if_pos held, State.assertReset, if_neg joins]

theorem execResetDevice_running {s : State} (p : PortId) (running : s.stoppage.held = false) :
    exec (.resetDevice p) s = .next (if Rights.binder s.ports[p].role then s.beginReset .command
      else s.finish p Code.resetDevice (.refused .refusedRole 0)) :=
  congrArg Host.Outcome.next (State.whenRunning_running running)

theorem execSupplyDipStart_clear {s : State} (clear : s.stoppage.supply = .clear) :
    exec .supplyDipStart s = .next (s.setSupply (.dipping false)) := by
  simp only [exec, execSupplyDipStart, clear]

theorem execSupplyDipStart_dipping {s : State} (dips : s.stoppage.supply ≠ .clear) :
    exec .supplyDipStart s = .next s := by
  cases supply : s.stoppage.supply with
  | clear => contradiction
  | dipping taken => simp only [exec, execSupplyDipStart, supply]

/-- R185: held in reset, the part takes nothing but reset sources and the supply. -/
theorem exec_of_held {i : Instr} {s : State} (held : s.stoppage.held = true)
    (resetEnd : ∀ sample, i ≠ .resetEnd sample)
    (other : i ∉ [Instr.powerOnReset, .pinReset, .supplyDipStart, .supplyReturn]) : exec i s = .next s := by
  have same (f : State → State) : (.next (s.whenRunning f) : Answer) = .next s :=
    congrArg Host.Outcome.next (State.whenRunning_held held)
  have sameWrite (p : PortId) (code : Byte) (subject : Nat) (body : State → State × Reply) :
      (.next (s.configWrite p code subject body) : Answer) = .next s := by
    unfold State.configWrite State.command
    exact same _
  cases i with
  | powerOnReset | pinReset | supplyDipStart | supplyReturn => exact absurd (by simp) other
  | setGeometry | setStation | setSensor | setCamWindow | setJobClass | setGaugeCal | setGlue | setTimers
  | setLiftLimits | forceCam => exact sameWrite _ _ _ _
  | resetEnd sample => exact absurd rfl (resetEnd sample)
  | _ => exact same _

/-- Settles O3: what begins a reset, and that everything else waits for its end. -/
theorem resetsBeginAndHoldThePart : Obligations.ResetsBeginAndHoldThePart := by
  unfold Obligations.ResetsBeginAndHoldThePart
  refine ⟨fun s running => ⟨?_, ?_, fun p binder => ?_, fun p other => ?_⟩, fun s held => ⟨fun i source begins => ?_,
    execSupplyDipStart_clear, execSupplyDipStart_dipping, rfl, fun i resetEnd other => exec_of_held held resetEnd other,
    fun p e => State.takeWire_of_held held, fun c => ?_, ?_, fun lamp => ?_, fun p => ?_, fun p => ?_⟩⟩
  · exact congrArg Host.Outcome.next (State.beginReset_running .powerOn running)
  · exact congrArg Host.Outcome.next (State.beginReset_running .pin running)
  · rw [execResetDevice_running p running, if_pos (Rights.binder_iff.2 binder), State.beginReset_running _ running]
  · rw [execResetDevice_running p running, if_neg (mt Rights.binder_iff.1 other)]
    rfl
  · obtain ⟨rfl, rfl⟩ | ⟨rfl, rfl⟩ := begins
    all_goals exact ⟨fun stands => congrArg Host.Outcome.next (State.beginReset_standing held stands),
      fun joins => congrArg Host.Outcome.next (State.beginReset_joining held joins)⟩
  · simp [State.camOutput, held]
  · simp [State.infeedGate, held]
  · cases lamp <;> simp [State.lampOutput, held]
  · simp [State.attnActive, held]
  · simp [State.sdo, held]

theorem State.sourceEnds_iff {s : State} {source : ResetCause} : s.sourceEnds source = true ↔
    source ∈ s.stoppage.asserted ∧ (source = .powerOn ∨ source = .supply → s.stoppage.supply = .clear) := by
  unfold State.sourceEnds
  cases source <;> simp

theorem execResetEnd_of_ends {s : State} {sample : ResetSample} (held : s.stoppage.held = true)
    (ends : s.sourceEnds sample.source = true) : exec (.resetEnd sample) s = .next
      (if s.stoppage.asserted.erase sample.source = [] then s.afterReset sample
      else { s with stoppage := { s.stoppage with asserted := s.stoppage.asserted.erase sample.source } }) := by
  simp only [exec, execResetEnd, held, ends, Bool.and_self, if_true]

theorem execResetEnd_of_not {s : State} {sample : ResetSample}
    (not : (s.stoppage.held && s.sourceEnds sample.source) = false) : exec (.resetEnd sample) s = .next s := by
  simp only [exec, execResetEnd, not, Bool.false_eq_true, if_false]

/-- Settles O4: by what stands and what ends. -/
theorem resetEndRestoresResetValues : Obligations.ResetEndRestoresResetValues := by
  unfold Obligations.ResetEndRestoresResetValues
  intro sample s
  refine ⟨fun held ends last => ?_, fun held ends rest => ?_, fun held not => ?_, fun running => ?_⟩
  · rw [execResetEnd_of_ends held (State.sourceEnds_iff.2 ends), if_pos last]
    have supply : (if s.stoppage.supply = .clear then SupplyMonitor.clear else .dipping false)
        = if s.stoppage.supply != .clear then .dipping false else .clear := by
      by_cases clear : s.stoppage.supply = .clear <;> simp [clear]
    rw [supply]
    rfl
  · rw [execResetEnd_of_ends held (State.sourceEnds_iff.2 ends), if_neg rest]
  · refine execResetEnd_of_not (Bool.and_eq_false_iff.2 (.inr ?_))
    exact Bool.eq_false_iff.2 fun ends => not (State.sourceEnds_iff.1 ends)
  · exact execResetEnd_of_not (Bool.and_eq_false_iff.2 (.inl running))

/-- R187: the state after a power-on reset stands, but for the ports, as the end of that reset leaves it. -/
theorem State.reset_sound : State.reset.LineModeSound ∧ State.reset.PositionSound ∧ State.reset.TablesSound
    ∧ State.reset.PotsSound ∧ State.reset.SerialsSound ∧ State.reset.OccupancySound := by
  let sample : ResetSample :=
    ⟨.powerOn, #v[⟨false, false⟩, ⟨false, true⟩, ⟨true, false⟩, ⟨true, true⟩], Vector.replicate 4 false⟩
  have tables := State.reset.afterReset_tablesSound sample
  have empty : State.reset.books.serials = [] := BookTable.afterReset_serials
  exact ⟨(State.reset.afterReset_lineModeSound sample).congr rfl rfl rfl ⟨rfl, rfl, rfl, rfl⟩,
    (State.reset.afterReset_positionSound sample).congr rfl,
    tables.of_bounded tables.books tables.clampMap tables.lifts rfl,
    ⟨Pot.afterReset_sound _ _, Pot.afterReset_sound _ _, rfl⟩, ⟨by simp [empty], by simp [empty]⟩,
    (State.reset.afterReset_occupancySound sample).congr rfl rfl rfl rfl⟩

/-- Settles O5: the values by evaluation, the invariants as the end of a reset leaves them. -/
theorem resetValuesAsTheRulesGiveThem : Obligations.ResetValuesAsTheRulesGiveThem := by
  unfold Obligations.ResetValuesAsTheRulesGiveThem
  refine ⟨?_, ?_, ?_⟩
  · have live : State.reset.books.live = [] := by decide
    refine ⟨rfl, rfl, rfl, rfl, rfl, rfl, rfl, rfl, rfl, rfl, rfl, rfl, live, rfl, rfl, rfl, rfl, rfl, rfl, rfl, rfl,
      rfl, rfl, rfl, rfl, by decide, rfl, rfl, rfl, rfl, rfl, rfl, rfl, rfl, rfl, rfl, rfl, rfl, rfl, ?_⟩
    decide
  · intro role cause
    cases role <;> cases cause <;> decide
  · exact State.reset_sound

end Sys2Proof.Machine
end

section
/-!
PROOF. The ports (R190 to R201): who may give what, results and raises, reads, and what acts on one port alone.
-/

namespace Sys2Proof.Machine

/-! ### Rights (R195) -/

theorem actionPort_eq {i : Instr} {p q : PortId} (port : i.actionPort = some p) (of : portOf i = some q) :
    q = p := by
  unfold Instr.actionPort at port
  split at port
  · contradiction
  · exact Option.some.inj (of.symm.trans port)

theorem actionCode_ne_zero {i : Instr} {p : PortId} (port : i.actionPort = some p) : i.actionCode ≠ 0 := by
  intro zero
  simp [Instr.actionPort, zero] at port

/-- R195: the rights of a command are those of its row. -/
def TakesFrom (i : Instr) (rights : Role → Bool) : Prop := ∀ r, rights r = i.takenFrom r

/-- R191 and R195: every action command but RESET DEVICE is taken as a command of its code, for its roles. -/
theorem exec_action {i : Instr} {p : PortId} (port : i.actionPort = some p) (other : i ≠ .resetDevice p) :
    ∃ rights body, TakesFrom i rights
      ∧ ∀ s : State, exec i s = .next (s.command p i.actionCode rights i.refusalSubject body) := by
  have code := actionCode_ne_zero port
  cases i with
  | setAttention q | clearAttention q =>
    obtain rfl := actionPort_eq port rfl
    exact ⟨Rights.everyone, _, fun r => by simp [Instr.takenFrom, Instr.actionCode, Rights.everyone], fun s => rfl⟩
  | announce q | caliper q | withdraw q =>
    obtain rfl := actionPort_eq port rfl
    exact ⟨Rights.gather, _, fun r => by simp [Instr.takenFrom, Instr.actionCode, Rights.gather], fun s => rfl⟩
  | start q | hold q | resume q | runout q | stop q | clearHalt q | resolveClampKeep q | resolveClampRemove q
  | glueReading q | clearGlueFault q =>
    obtain rfl := actionPort_eq port rfl
    exact ⟨Rights.binder, _, fun r => by simp [Instr.takenFrom, Instr.actionCode, Rights.binder], fun s => rfl⟩
  | coverSeen q =>
    obtain rfl := actionPort_eq port rfl
    exact ⟨Rights.cover, _, fun r => by simp [Instr.takenFrom, Instr.actionCode, Rights.cover], fun s => rfl⟩
  | takeLift q | cutDone q | closeLift q =>
    obtain rfl := actionPort_eq port rfl
    exact ⟨Rights.trim, _, fun r => by simp [Instr.takenFrom, Instr.actionCode, Rights.trim], fun s => rfl⟩
  | rejectBook q | lockClamp q | unlockClamp q | setGeometry q | setStation q | setSensor q | setCamWindow q
  | setJobClass q | setGaugeCal q | setGlue q | setTimers q | setLiftLimits q | forceCam q =>
    obtain rfl := actionPort_eq port rfl
    exact ⟨Rights.notObserver, _, fun r => by simp [Instr.takenFrom, Instr.actionCode, Rights.notObserver],
      fun s => rfl⟩
  | resetDevice q =>
    obtain rfl := actionPort_eq port rfl
    exact absurd rfl other
  | readIdent | readStatus | readResult | readAttention | readBook | readClampMap | readQueue | readLifts | readConfig
  | nextDue | nextLift | readRejects | takeReject | frameError | frameAbandon
  | forwardCount | reverseCount | homingTravelLimit | pitchesSinceHomeLimit | standstillReturn | standstillExpiry
  | sensorRawChange | debounceExpiry | supplyDipStart | supplyReturn | supplyEvent | powerOnReset | pinReset | resetEnd
  | sealTimerExpiry | camWindowEnd | settleExpiry | heatUpExpiry | staleExpiry | openTimeExpiry | coolingExpiry
  | windowTimerExpiry | trimTimerExpiry | attnPulseEnd | lampFlashToggle => exact absurd rfl code
  | _ => -- SEAL, whose constructor shares its name with a keyword
    obtain rfl := actionPort_eq port rfl
    exact ⟨Rights.gather, _, fun r => by simp [Instr.takenFrom, Instr.actionCode, Rights.gather], fun s => rfl⟩

theorem resetDevice_takesFrom (p : PortId) : TakesFrom (.resetDevice p) Rights.binder :=
  fun r => by simp [Instr.takenFrom, Instr.actionCode, Rights.binder]

/-- R195: every configuration write is one of its code. -/
theorem exec_configWrite {i : Instr} {p : PortId} (write : i.isConfigWrite = true) (port : i.actionPort = some p) :
    ∃ body, ∀ s : State, exec i s = .next (s.configWrite p i.actionCode i.refusalSubject body) := by
  cases i with
  | setGeometry q | setStation q | setSensor q | setCamWindow q | setJobClass q | setGaugeCal q | setGlue q
  | setTimers q
  | setLiftLimits q | forceCam q =>
    obtain rfl := actionPort_eq port rfl
    exact ⟨_, fun s => rfl⟩
  | _ => exact absurd write Bool.false_ne_true

/-- Settles O7: the role, then the mode. -/
theorem rightsAreTestedFirst : Obligations.RightsAreTestedFirst := by
  unfold Obligations.RightsAreTestedFirst
  refine ⟨fun i p s port running refused => ?_, fun i p s write port running role mode => ?_⟩
  · by_cases reset : i = .resetDevice p
    · subst reset
      have other : Rights.binder s.ports[p].role = false := (resetDevice_takesFrom p _).trans refused
      rw [execResetDevice_running p running, other]
      rfl
    · obtain ⟨rights, body, takes, h⟩ := exec_action port reset
      rw [h, State.command_refused running ((takes _).trans refused)]
  · obtain ⟨body, h⟩ := exec_configWrite write port
    rw [h, State.configWrite_refused running role mode]

/-! ### Results and raises (R196, R197) -/

theorem State.finish_get (s : State) (p q : PortId) (code : Byte) (r : Reply) :
    (s.finish p code r).ports[q] = if q = p then (s.ports[p]).finish code r else s.ports[q] :=
  s.modifyPort_get p q _

/-- R199: a common bit of two masks of the nine causes. -/
theorem and_ne_zero_iff (a b : BitVec 9) :
    a &&& b ≠ 0 ↔ ∃ i < 9, a.getLsbD i = true ∧ b.getLsbD i = true := by
  rw [Ne, BitVec.eq_of_getLsbD_eq_iff.not]
  simp

/-- Settles O8. -/
theorem resultsAndRaisesReachTheirPorts : Obligations.ResultsAndRaisesReachTheirPorts := by
  unfold Obligations.ResultsAndRaisesReachTheirPorts
  refine ⟨fun p code r s => ⟨rfl, ?_, fun q other => ?_⟩, ⟨fun cause s => ⟨rfl, fun p => ?_⟩, by decide,
    fun p s running => ⟨fun level => ?_, fun pulse => ?_⟩⟩⟩
  · rw [State.finish_get, if_pos rfl]
    rfl
  · rw [State.finish_get, if_neg other]
  · rw [State.raise_get]
    simp only [Port.raise, Config.pulseTime, bne_iff_ne, Bool.and_eq_true, beq_iff_eq]
  · unfold State.attnActive
    rw [running, level, ← and_ne_zero_iff]
    simp
  · unfold State.attnActive
    rw [running, pulse]
    simp [Option.isSome_iff_ne_none]

/-! ### Reads (R192) -/

theorem State.read_running {s : State} {p : PortId} {frame : List Byte} {answer : State → List Byte}
    (running : s.stoppage.held = false) : s.read p frame answer = s.answering p frame (answer s) false :=
  State.whenRunning_running running

/-- Settles O9: each read is a read of its own code and answer. -/
theorem readsOnlySnapshot : Obligations.ReadsOnlySnapshot := by
  unfold Obligations.ReadsOnlySnapshot
  intro p s running
  have read (frame : List Byte) (answer : State → List Byte) :
      (.next (s.read p frame answer) : Answer) = .next (s.answering p frame (answer s) false) :=
    congrArg Host.Outcome.next (State.read_running running)
  exact ⟨read _ _, read _ _, read _ _, read _ _, fun serial => read _ _,
    fun start => congrArg Host.Outcome.next (State.whenRunning_running running), fun queue start => read _ _,
    read _ _, read _ _, read _ _, read _ _, fun start => read _ _⟩

/-! ### Attention and failed frames (R193, R198, R199, R201) -/

theorem causeMask_of_lt {mask : Word16} (h : mask.toNat < 512) : causeMask mask = some (mask.setWidth 9) := by
  rw [causeMask, if_pos h]
  rfl

theorem causeMask_of_le {mask : Word16} (h : 512 ≤ mask.toNat) : causeMask mask = none :=
  if_neg (Nat.not_lt.2 h)

theorem attnModeOf_of_le {b : Byte} (h : 2 ≤ b.toNat) : attnModeOf b = none := by
  unfold attnModeOf
  split
  · omega
  · omega
  · rfl

theorem execSetAttention_taken {s : State} (p : PortId) (mask : Word16) (attnMode : Byte)
    (running : s.stoppage.held = false) : exec (.setAttention p mask attnMode) s =
      .next (match causeMask mask, attnModeOf attnMode with
        | some e, some m => (s.modifyPort p (Port.setAttention e m)).finish p Code.setAttention (.ok 0)
        | _, _ => s.finish p Code.setAttention (.refused .refusedRange 0)) := by
  refine congrArg Host.Outcome.next ((State.command_taken running rfl).trans ?_)
  cases causeMask mask <;> cases attnModeOf attnMode <;> rfl

theorem execClearAttention_taken {s : State} (p : PortId) (mask : Word16) (running : s.stoppage.held = false) :
    exec (.clearAttention p mask) s = .next (match causeMask mask with
      | some m => (s.modifyPort p fun q => { q with latches := q.latches &&& ~~~m }).finish p Code.clearAttention
          (.ok 0)
      | none => s.finish p Code.clearAttention (.refused .refusedRange 0)) := by
  refine congrArg Host.Outcome.next ((State.command_taken running rfl).trans ?_)
  cases causeMask mask <;> rfl

/-- R193: what a failed frame leaves at its port. -/
theorem Port.frameFailed_eq (now : Nat) (state : FrameState) (code : Byte) (q : Port) :
    q.frameFailed now state code = { q with
      frame := state, collected := [], snapshot := none, taking := none
      result := .frameError, subject := code.setWidth 16, lastCode := code
      latches := q.latches ||| 0b100000000
      pulse := if q.attnMode = .pulse ∧ q.enables.getLsbD 8 = true then some (now + 1) else q.pulse } := by
  have bit : (q.enables &&& Attention.frame.bit ≠ 0) ↔ q.enables.getLsbD 8 = true := by
    rw [and_ne_zero_iff]
    constructor
    · rintro ⟨i, below, enabled, bit⟩
      have last : i = 8 := by
        by_contra other
        interval_cases i <;> simp_all [Attention.bit]
      exact last ▸ enabled
    · exact fun enabled => ⟨8, by decide, enabled, by decide⟩
  have subject : BitVec.ofNat 16 code.toNat = code.setWidth 16 := BitVec.ofNat_toNat 16 code
  simp only [Port.frameFailed, Port.finish, Port.raise, Bool.and_eq_true, beq_iff_eq, bne_iff_ne, bit, subject,
    Config.pulseTime]
  rfl

theorem execFrameAbandon_running {s : State} (p : PortId) (bytes : List Byte) (running : s.stoppage.held = false) :
    exec (.frameAbandon p bytes) s = .next (if s.abandons p bytes then
      s.modifyPort p (Port.frameFailed s.now .discarding (receivedCode bytes)) else s) :=
  congrArg Host.Outcome.next (State.whenRunning_running running)

theorem execAttnPulseEnd_running {s : State} (p : PortId) (running : s.stoppage.held = false) :
    exec (.attnPulseEnd p) s = .next (if isDue s.now s.ports[p].pulse then
      s.modifyPort p fun q => { q with pulse := none } else s) :=
  congrArg Host.Outcome.next (State.whenRunning_running running)

/-- Settles O12. -/
theorem attentionAndFailedFramesActOnTheirPort : Obligations.AttentionAndFailedFramesActOnTheirPort := by
  unfold Obligations.AttentionAndFailedFramesActOnTheirPort
  refine ⟨fun p mask attnMode s running => ⟨fun few m mode => ?_, fun bad => ?_, fun few => ?_, fun many => ?_⟩,
    fun p bytes partialByte s running => ?_⟩
  · rw [execSetAttention_taken p mask attnMode running, causeMask_of_lt few]
    obtain ⟨rfl, rfl⟩ | ⟨rfl, rfl⟩ := mode <;> rfl
  · rw [execSetAttention_taken p mask attnMode running]
    obtain many | many := bad
    · rw [causeMask_of_le many]
      rfl
    · rw [attnModeOf_of_le many]
      cases causeMask mask <;> rfl
  · rw [execClearAttention_taken p mask running, causeMask_of_lt few]
    rfl
  · rw [execClearAttention_taken p mask running, causeMask_of_le many]
    rfl
  · have failed (state : FrameState) : s.modifyPort p (Port.frameFailed s.now state (receivedCode bytes))
        = { s with ports := s.ports.set p { s.ports[p] with
            frame := state, collected := [], snapshot := none, taking := none
            result := .frameError, subject := (bytes.headD 0).setWidth 16, lastCode := bytes.headD 0
            latches := s.ports[p].latches ||| 0b100000000
            pulse := if s.ports[p].attnMode = .pulse ∧ s.ports[p].enables.getLsbD 8 = true then some (s.now + 1)
              else s.ports[p].pulse } } := by
      rw [State.modifyPort, Port.frameFailed_eq]
      rfl
    refine ⟨fun errs => ?_, fun due gap => ⟨fun ⟨gone, same, inFrame⟩ => ?_, fun not => ?_⟩, fun gap errs => ?_,
      fun due pulse => ⟨fun ended => ?_, fun early => ?_⟩, fun none_ => ?_⟩
    · refine congrArg Host.Outcome.next ((State.whenRunning_running running).trans ?_)
      rw [if_pos errs, failed]
    · rw [execFrameAbandon_running p bytes running, if_pos ((State.abandons_line gap).2 ⟨gone, inFrame, same.symm⟩),
        failed]
    · rw [execFrameAbandon_running p bytes running, if_neg]
      rw [State.abandons_line gap]
      exact fun ⟨gone, inFrame, same⟩ => not ⟨gone, same.symm, inFrame⟩
    · rw [execFrameAbandon_running p bytes running, State.abandons_row gap, if_pos errs, failed]
    · rw [execAttnPulseEnd_running p running, pulse, isDue_some, if_pos (decide_eq_true ended)]
      rfl
    · rw [execAttnPulseEnd_running p running, pulse, isDue_some, if_neg (by simpa using early)]
    · rw [execAttnPulseEnd_running p running, none_]
      rfl

end Sys2Proof.Machine
end

section
/-!
PROOF. The Book Table's commands (R33 to R50) and what each way of retiring leaves (R46 to R51).
-/

namespace Sys2Proof.Machine

variable {s : State} {p : PortId}

/-! ### Answers -/

/-- R195 and R196: a command from a port with the right leaves the state and the reply its body gives. -/
theorem command_answer {t : State} {code : Byte} {rights : Role → Bool} {subject : Nat} {body : State → State × Reply}
    {r : Reply} (running : s.stoppage.held = false) (right : rights s.ports[p].role = true) (h : body s = (t, r)) :
    (.next (s.command p code rights subject body) : Answer) = .next (t.finish p code r) := by
  rw [State.command_taken running right, h]

/-- R185: an event that is taken. -/
theorem whenRunning_answer {t : State} {f : State → State} (running : s.stoppage.held = false) (h : f s = t) :
    (.next (s.whenRunning f) : Answer) = .next t := by
  rw [State.whenRunning_running running, h]

/-! ### ANNOUNCE (R33, R34) -/

theorem Job.inRange_iff {j : Job} : j.inRange = true ↔ j.InRange := by
  simp only [Job.inRange, Job.InRange, Bool.and_eq_true, decide_eq_true_eq, and_assoc]

/-- Sealing keeps the serials, and so the serial that is given next. -/
theorem State.sealOpenBook_nextSerial (s : State) : s.sealOpenBook.books.nextSerial = s.books.nextSerial := by
  have serials : s.sealOpenBook.books.live.map Book.serial = s.books.live.map Book.serial
      ∧ s.sealOpenBook.books.lastSerial = s.books.lastSerial := by
    unfold State.sealOpenBook
    split
    next n _ =>
      refine ⟨BookTable.live_map_serial fun slot => ?_, rfl⟩
      cases slot with
      | none => rfl
      | some b =>
        have kept := (sealedBook_becomes s.setpoints s.clock.geometry b).serial
        simp only [Option.map_some, Option.some.injEq]
        split
        · exact kept
        · rfl
    next => exact ⟨rfl, rfl⟩
  unfold BookTable.nextSerial
  simp only [serials.1, serials.2]

theorem execAnnounce_full (jobKey : Word32) (cls : Byte) (hr h wr w cw : Word24) (cover : Word32)
    (running : s.stoppage.held = false) (gather : s.ports[p].role = .gather) (full : 8 ≤ s.books.announceQ.length) :
    exec (.announce p jobKey cls hr h wr w cw cover) s = .next (s.finish p 0x20 ⟨.refusedFull, 0⟩) := by
  refine command_answer running (Rights.gather_iff.2 gather) ?_
  have full : Config.announceCapacity ≤ s.books.announceQ.length := full
  rw [State.announce, if_pos full]
  rfl

theorem execAnnounce_taken (jobKey : Word32) (cls : Byte) (hr h wr w cw : Word24) (cover : Word32)
    (running : s.stoppage.held = false) (gather : s.ports[p].role = .gather) (room : s.books.announceQ.length < 8) :
    exec (.announce p jobKey cls hr h wr w cw cover) s = .next ((s.sealOpenBook.createAnnounced
      ⟨jobKey, cls.toNat, hr.toNat, h.toNat, wr.toNat, w.toNat, cw.toNat⟩ cover).finish p 0x20
        ⟨.ok, s.sealOpenBook.books.nextSerial⟩) := by
  refine command_answer running (Rights.gather_iff.2 gather) ?_
  have room : ¬ Config.announceCapacity ≤ s.books.announceQ.length := Nat.not_le.2 room
  rw [State.announce, if_neg room]
  rfl

/-- R32: the open book is the tail of the announce queue while it is ANNOUNCED. -/
theorem State.openBook_iff {n : Nat} : s.openBook = some n ↔
    s.books.announceQ.getLast? = some n ∧ ∃ b, s.findBook n = some b ∧ b.state = .announced := by
  simp only [State.openBook, Option.filter_eq_some_iff, Option.any_eq_true, beq_iff_eq]

/-- R27 and R28: the live book of a serial stands in the lowest slot that holds the serial. -/
theorem State.findBook_iff {n : Nat} {b : Book} : s.findBook n = some b ↔
    ∃ i : Fin Config.slotCount, s.books.slots[i] = some b ∧ b.serial = n
      ∧ ∀ j : Fin Config.slotCount, j < i → ∀ c, s.books.slots[j] = some c → c.serial ≠ n := by
  have matches_ (slot : Option Book) (b : Book) :
      (slot.filter fun b => b.serial == n) = some b ↔ slot = some b ∧ b.serial = n := by
    rw [Option.filter_eq_some_iff, beq_iff_eq]
  have misses (slot : Option Book) :
      (slot.filter fun b => b.serial == n) = none ↔ ∀ c, slot = some c → c.serial ≠ n := by
    rw [Option.filter_eq_none_iff]
    simp
  rw [State.findBook_eq, List.findSome?_eq_some_iff]
  constructor
  · rintro ⟨before, slot, after, split, found, missed⟩
    obtain ⟨rfl, serial⟩ := (matches_ _ _).1 found
    have size := congrArg List.length split
    rw [Vector.length_toList, List.length_append, List.length_cons] at size
    have at_ (k : Nat) (h : k < Config.slotCount) : s.books.slots[k] = (before ++ some b :: after)[k]'(by
        rw [List.length_append, List.length_cons]; omega) := by
      simp only [← split, Vector.getElem_toList]
    refine ⟨⟨before.length, by omega⟩, ?_, serial, fun j below => ?_⟩
    · rw [Fin.getElem_fin, at_ _ (by omega)]
      simp
    · refine (misses _).1 ?_
      rw [Fin.getElem_fin, at_ _ j.isLt, List.getElem_append_left below]
      exact missed _ (List.getElem_mem _)
  · rintro ⟨i, found, serial, missed⟩
    refine ⟨s.books.slots.toList.take i, some b, s.books.slots.toList.drop (i + 1), ?_, (matches_ _ _).2 ⟨rfl, serial⟩,
      fun slot mem => (misses _).2 ?_⟩
    · have at_ : s.books.slots.toList[(i : Nat)]'(by simp) = some b := by simpa using found
      rw [← at_, List.cons_getElem_drop_succ, List.take_append_drop]
    · obtain ⟨j, below, rfl⟩ := List.mem_take_iff_getElem.1 mem
      have lower : j < i := by omega
      have slot : s.books.slots.toList[j] = s.books.slots[j] := by simp
      rw [slot]
      exact missed ⟨j, by omega⟩ lower

/-- Settles O15: the queue's room, and which book is found. -/
theorem announceCreatesTheOpenBook : Obligations.AnnounceCreatesTheOpenBook := by
  unfold Obligations.AnnounceCreatesTheOpenBook
  refine ⟨fun p jobKey cls hr h wr w cw cover s running gather => ?_,
    fun s n => ⟨State.openBook_iff, fun b => State.findBook_iff⟩⟩
  refine ⟨execAnnounce_full jobKey cls hr h wr w cw cover running gather, fun room cause inside outside_ => ?_⟩
  have causeEq : (if (⟨jobKey, cls.toNat, hr.toNat, h.toNat, wr.toNat, w.toNat, cw.toNat⟩ : Job).inRange
      then none else some .specRange) = cause := by
    split
    next within => exact (inside (Job.inRange_iff.1 within)).symm
    next beyond => exact (outside_ (mt Job.inRange_iff.2 beyond)).symm
  rw [execAnnounce_taken jobKey cls hr h wr w cw cover running gather room, State.sealOpenBook_nextSerial,
    State.createAnnounced, State.sealOpenBook_nextSerial, State.sealOpenBook_announceQ, announcedBook, causeEq]
  unfold State.sealOpenBook
  cases s.openBook <;> rfl

/-! ### CALIPER (R35) -/

/-- Settles O16: by the count and the open book. -/
theorem caliperFeedsTheOpenBook : Obligations.CaliperFeedsTheOpenBook := by
  unfold Obligations.CaliperFeedsTheOpenBook
  intro p samples s running gather
  have right := Rights.gather_iff.2 gather
  refine ⟨fun bad => command_answer running right ?_, fun some_ few none_ => command_answer running right ?_,
    fun some_ few serial isOpen => ?_⟩
  · rw [State.caliper, List.length_map, if_pos bad]
    rfl
  · rw [State.caliper, List.length_map, if_neg (by omega), none_]
    rfl
  · have clipped : (samples.map BitVec.toNat).map (min Config.topSample) = samples.map fun x => min x.toNat 99999 := by
      rw [List.map_map]
      exact List.map_congr_left fun x _ => min_comm _ _
    have adjusted : ((samples.map BitVec.toNat).any (Config.topSample < ·)) = true
        ↔ ∃ x ∈ samples, 99999 < x.toNat := by
      rw [List.any_map, List.any_eq_true]
      exact exists_congr fun x => and_congr_right fun _ => decide_eq_true_iff
    refine command_answer running right ?_
    rw [State.caliper, List.length_map, if_neg (by omega), isOpen, clipped]
    simp only [Reply.taken, adjusted]
    rfl

/-! ### Sealing (R36 to R39) -/

/-- R38: sealing reads the record of the book alone as changed. -/
theorem State.findBook_sealBook_self (s : State) (n : Nat) :
    (s.sealBook n).findBook n = (s.findBook n).map (sealedBook s.setpoints s.clock.geometry) :=
  s.findBook_mapBook_self n _ fun b => (sealedBook_becomes s.setpoints s.clock.geometry b).serial

theorem State.findBook_sealBook_of_ne (s : State) {n m : Nat} (h : m ≠ n) :
    (s.sealBook n).findBook m = s.findBook m :=
  s.findBook_mapBook_of_ne _ (fun b => (sealedBook_becomes s.setpoints s.clock.geometry b).serial) h

theorem sealedBook_of_cause {u : SetPointUnit} {geo : Geometry} {b : Book} (h : b.cause ≠ none) :
    sealedBook u geo b = { b with state := .sealed } := by
  cases cause : b.cause with
  | none => exact absurd cause h
  | some c => simp only [sealedBook, cause]

section Computed

variable {u : SetPointUnit} {geo : Geometry} {b : Book} {job : Job} {k : Fin 8}

theorem SetPointUnit.classes_of_job (u : SetPointUnit) (cls : job.jobClass = k) :
    u.classes[job.jobClass]? = some u.classes[k] := by
  rw [cls]
  exact Vector.getElem?_eq_getElem k.isLt

theorem sealedBook_ok {sp : SetPoints} {w : Warnings} (cause : b.cause = none) (job_ : b.job = some job)
    (cls : job.jobClass = k)
    (ok : computeSetPoints job b.samples u.classes[k] u.gauge geo.pitchCounts geo.pitchLength = .ok (sp, w)) :
    sealedBook u geo b = { b with state := .sealed, setPoints := some sp, warnings := w } := by
  simp only [sealedBook, cause, job_, u.classes_of_job cls, ok]

theorem sealedBook_error {c : RejectCause} (cause : b.cause = none) (job_ : b.job = some job)
    (cls : job.jobClass = k)
    (error : computeSetPoints job b.samples u.classes[k] u.gauge geo.pitchCounts geo.pitchLength = .error c) :
    sealedBook u geo b = { b with state := .sealed, cause := some c } := by
  simp only [sealedBook, cause, job_, u.classes_of_job cls, error]

end Computed

theorem execSealTimerExpiry_due {due : Nat} (running : s.stoppage.held = false)
    (timer : s.books.sealTimer = some due) (reached : due ≤ s.now) : exec .sealTimerExpiry s =
      .next ({ s with books := { s.books with sealTimer := none } } : State).sealOpenBook :=
  whenRunning_answer running (by rw [timer, isDue_some, if_pos (decide_eq_true reached)])

theorem execSealTimerExpiry_early (running : s.stoppage.held = false)
    (early : isDue s.now s.books.sealTimer = false) : exec .sealTimerExpiry s = .next s :=
  whenRunning_answer running (by rw [early]; rfl)

/-- Settles O17: the record as sealing leaves it, and the two that seal. -/
theorem sealingComputesOnce : Obligations.SealingComputesOnce := by
  unfold Obligations.SealingComputesOnce
  refine ⟨fun n s b found => ⟨rfl, fun m other => s.findBook_sealBook_of_ne other, fun cause => ?_,
    fun cause job k job_ cls => ⟨fun sp w ok => ?_, fun c error => ?_⟩⟩, fun p s running gather => ⟨?_, ?_⟩,
    fun s running => ⟨fun due timer reached => ⟨?_, ?_⟩, fun due timer early => ?_, fun timer => ?_⟩⟩
  · rw [State.findBook_sealBook_self, found, Option.map_some, sealedBook_of_cause cause]
  · rw [State.findBook_sealBook_self, found, Option.map_some, sealedBook_ok cause job_ cls ok]
  · rw [State.findBook_sealBook_self, found, Option.map_some, sealedBook_error cause job_ cls error]
  · intro n isOpen
    exact command_answer running (Rights.gather_iff.2 gather) (by rw [State.sealCommand, isOpen]; rfl)
  · intro none_
    exact command_answer running (Rights.gather_iff.2 gather) (by rw [State.sealCommand, none_]; rfl)
  · intro n isOpen
    have same : ({ s with books := { s.books with sealTimer := none } } : State).openBook = some n := isOpen
    rw [execSealTimerExpiry_due running timer reached, State.sealOpenBook, same]
  · intro none_
    have same : ({ s with books := { s.books with sealTimer := none } } : State).openBook = none := none_
    rw [execSealTimerExpiry_due running timer reached, State.sealOpenBook, same]
  · exact execSealTimerExpiry_early running (by rw [timer, isDue_some]; simpa using early)
  · exact execSealTimerExpiry_early running (by rw [timer, isDue_none])

/-! ### WITHDRAW and REJECT BOOK (R41, R42) -/

/-- R32: the fall of the announce queue from 8 books to 7. -/
theorem State.raiseSpace_eq (s : State) (before : Nat) (shorter : s.books.announceQ.length + 1 = before) :
    s.raiseSpace before = if before = 8 then s.raise .space else s := by
  unfold State.raiseSpace
  rw [shorter]
  simp only [Config.announceCapacity, and_self]

theorem State.withdraw_queued {n : Nat} (queued : n ∈ s.books.announceQ) :
    s.withdraw n = ((({ s with books := { s.books with
        announceQ := s.books.announceQ.erase n
        sealTimer := if s.openBook = some n then none else s.books.sealTimer } } : State).retireWithdrawn n).raiseSpace
          s.books.announceQ.length, .ok n) := by
  rw [State.withdraw, if_pos queued]

/-- R42: REJECT BOOK of a live book. -/
theorem State.rejectBook_found {n : Nat} {b : Book} (found : s.findBook n = some b) :
    s.rejectBook n = if b.state.rejectable then (s.setCause n .operator, .ok n) else (s, ⟨.refusedMode, n⟩) := by
  rw [State.rejectBook, found]
  rfl

theorem Book.takeCause_eq_if (c : RejectCause) :
    Book.takeCause c = fun b => { b with cause := if b.cause = none then some c else b.cause } := by
  funext b
  unfold Book.takeCause
  cases b.cause <;> rfl

/-- Settles O18: by the queue, and by the book's state. -/
theorem withdrawAndRejectBook : Obligations.WithdrawAndRejectBook := by
  unfold Obligations.WithdrawAndRejectBook
  refine ⟨fun p serial s running gather => ?_, fun p serial s running role => ⟨fun none_ => ?_, fun b found => ?_⟩⟩
  · have right := Rights.gather_iff.2 gather
    have shorter (queued : serial.toNat ∈ s.books.announceQ) :
        (s.books.announceQ.erase serial.toNat).length + 1 = s.books.announceQ.length := by
      rw [List.length_erase_of_mem queued, Nat.sub_add_cancel (List.length_pos_of_mem queued)]
    refine ⟨fun queued full => command_answer running right ?_, fun queued room => command_answer running right ?_,
      fun other => command_answer running right ?_⟩
    · rw [State.withdraw_queued queued, State.raiseSpace_eq _ _ (shorter queued), if_pos full]
      rfl
    · rw [State.withdraw_queued queued, State.raiseSpace_eq _ _ (shorter queued), if_neg room]
      rfl
    · rw [State.withdraw, if_neg other]
      rfl
  · refine command_answer running (Rights.notObserver_iff.2 role) ?_
    rw [State.rejectBook, none_]
    rfl
  · refine ⟨fun state => command_answer running (Rights.notObserver_iff.2 role) ?_,
      fun state => command_answer running (Rights.notObserver_iff.2 role) ?_⟩
    · have rejectable : b.state.rejectable = true := by
        obtain state | state | state := state <;> rw [state] <;> rfl
      rw [State.rejectBook_found found, rejectable, if_pos rfl, State.setCause, Book.takeCause_eq_if]
      rfl
    · have not : b.state.rejectable = false := by
        obtain state | state | state | state := state <;> rw [state] <;> rfl
      rw [State.rejectBook_found found, not]
      rfl

/-! ### The reject list and retirement (R46 to R51) -/

theorem State.findBook_freeBook_self (s : State) (n : Nat) : (s.freeBook n).findBook n = none := by
  rw [State.findBook_none, State.live_freeBook]
  intro b mem
  simpa using (List.mem_filter.1 mem).2

theorem State.findBook_freeBook_of_ne (s : State) {n m : Nat} (h : m ≠ n) :
    (s.freeBook n).findBook m = s.findBook m := by
  rw [State.findBook_eq, State.findBook_eq, State.freeBook]
  simp only [Vector.toList_map]
  induction s.books.slots.toList with
  | nil => rfl
  | cons a l ih =>
    rw [List.map_cons, List.findSome?_cons, List.findSome?_cons, ih]
    cases a with
    | none => rfl
    | some b =>
      by_cases same : b.serial = n
      · simp [filter_slot, same, Ne.symm h]
      · simp [filter_slot, same]

theorem State.retireRejected_found {n : Nat} {b : Book} (place : Where) (cause : RejectCause)
    (found : s.findBook n = some b) :
    let a := s.appendReject ⟨n, (b.job.map Job.jobKey).getD 0, b.cause.getD cause, place⟩
    s.retireRejected n place cause
      = ({ a with books := { a.books with rejected := s.books.rejected + 1 } } : State).freeBook n := by
  rw [State.retireRejected, found]
  simp only [Book.rejectEntry, (State.findBook_some found).1]
  rfl

/-- Settles O20: the list's append, and each way of retiring. -/
theorem retirementAndTheRejectList : Obligations.RetirementAndTheRejectList := by
  unfold Obligations.RetirementAndTheRejectList
  refine ⟨fun e s => ⟨fun room => ?_, fun full => ?_, rfl, fun q => State.raise_get _ _ q⟩,
    fun n place cause s => ⟨fun b found => ?_, ⟨?_, ?_, rfl⟩, ?_, ?_, rfl⟩⟩
  · have room : ¬ Config.rejectCapacity ≤ s.books.rejects.length := Nat.not_le.2 room
    simp [State.appendReject, room]
  · have full : s.books.rejects.length = Config.rejectCapacity := full
    simp [State.appendReject, full, Config.rejectCapacity]
  · dsimp only
    rw [State.retireRejected_found place cause found]
    exact ⟨State.findBook_freeBook_self _ n, fun m other => (State.findBook_freeBook_of_ne _ other).trans rfl, rfl⟩
  · exact State.findBook_freeBook_self _ n
  · exact fun m other => State.findBook_freeBook_of_ne _ other
  · exact State.findBook_freeBook_self _ n
  · exact fun m other => State.findBook_freeBook_of_ne _ other

/-! ### TAKE REJECT (R50) -/

theorem State.modifyPort_modifyPort (s : State) (p : PortId) (f g : Port → Port) :
    (s.modifyPort p f).modifyPort p g = s.modifyPort p fun q => g (f q) := by
  simp only [State.modifyPort, Vector.set_set, Fin.getElem_fin, Vector.getElem_set_self]

/-- R50: the port of a TAKE REJECT at its command byte. -/
def Port.beginTake (entry : Option RejectEntry) (gone : Nat) (q : Port) : Port :=
  { q with
    frame := .answering, collected := [Code.takeReject]
    snapshot := some ⟨(entry.map RejectEntry.bytes).getD (List.replicate 8 0), false⟩, taking := some ⟨entry, gone⟩ }

/-- R50: the entry that the command byte snapshots. -/
def State.entryToTake (p : PortId) (s : State) : Option RejectEntry :=
  if s.ports[p].role = .gather then s.books.rejects.head? else none

theorem State.beginTake_eq (s : State) (p : PortId) :
    s.beginTake p = s.modifyPort p (Port.beginTake (s.entryToTake p) s.books.rejectsGone) := rfl

theorem State.entryToTake_gather {s : State} {p : PortId} (gather : s.ports[p].role = .gather) :
    s.entryToTake p = s.books.rejects.head? := if_pos gather

theorem State.entryToTake_none {s : State} {p : PortId} (h : s.ports[p].role ≠ .gather ∨ s.books.rejects = []) :
    s.entryToTake p = none := by
  unfold State.entryToTake
  split
  next gather => rw [h.resolve_left (not_not_intro gather), List.head?_nil]
  next => rfl

/-- R50: what a release does once the whole entry is out, by the entry snapshotted and whether it still stands at the
head. -/
def State.takeOutcome (p : PortId) (stays : Prop) [Decidable stays] (s : State) : Option RejectEntry → State
  | none => s.finish p 0x0D ⟨.refusedUnknown, 0⟩
  | some e => if stays then s.removeReject.finish p 0x0D ⟨.ok, e.serial⟩
    else s.finish p 0x0D ⟨.refusedUnknown, e.serial⟩

theorem State.endTake_taking {s : State} {p : PortId} {entry : Option RejectEntry} {gone : Nat}
    (taking : s.ports[p].taking = some ⟨entry, gone⟩) (n : Nat) :
    s.endTake p n = if n < 8 then s.modifyPort p Port.dropFrame
      else if s.ports[p].role ≠ .gather then s.finish p 0x0D ⟨.refusedRole, 0⟩
      else s.takeOutcome p (s.books.rejectsGone = gone) entry := by
  simp only [State.endTake, taking]
  cases entry <;> rfl

/-- R50: the whole frame acts on the list as it stands at its command byte; of the port it leaves what a
release leaves. -/
theorem State.wholeTake_eq (s : State) (p : PortId) (n : Nat) :
    (s.beginTake p).endTake p n = if n < 8 then s.modifyPort p Port.dropFrame
      else if s.ports[p].role ≠ .gather then s.finish p 0x0D ⟨.refusedRole, 0⟩
      else s.takeOutcome p True (s.entryToTake p) := by
  have port : (s.beginTake p).ports[p] = Port.beginTake (s.entryToTake p) s.books.rejectsGone s.ports[p] := by
    rw [State.beginTake_eq, State.modifyPort_get, if_pos rfl]
  have finished (r : Reply) : (s.beginTake p).finish p 0x0D r = s.finish p 0x0D r := State.modifyPort_modifyPort ..
  have taken (r : Reply) : (s.beginTake p).removeReject.finish p 0x0D r = s.removeReject.finish p 0x0D r :=
    s.removeReject.modifyPort_modifyPort p (Port.beginTake (s.entryToTake p) s.books.rejectsGone) _
  have dropped : (s.beginTake p).modifyPort p Port.dropFrame = s.modifyPort p Port.dropFrame :=
    State.modifyPort_modifyPort ..
  have role : (s.beginTake p).ports[p].role = s.ports[p].role := by rw [port]; rfl
  have gone : (s.beginTake p).books.rejectsGone = s.books.rejectsGone := rfl
  rw [State.endTake_taking (congrArg Port.taking port), dropped, role, finished]
  cases s.entryToTake p with
  | none => simp only [State.takeOutcome, finished]
  | some e => simp only [State.takeOutcome, gone, if_true, taken]

theorem State.removeReject_eq (s : State) : s.removeReject = { s with books := { s.books with
    rejects := s.books.rejects.tail, overrun := s.books.overrun && decide (s.books.rejects.tail ≠ [])
    rejectsGone := s.books.rejectsGone + 1 } } := by
  unfold State.removeReject
  cases s.books.rejects.tail <;> simp

/-- Settles O21: the release by what was snapshotted, and the whole frame from it. -/
theorem takeRejectTakesTheOldest : Obligations.TakeRejectTakesTheOldest := by
  unfold Obligations.TakeRejectTakesTheOldest
  intro p n s running dropped taken begun
  have removed (e : RejectEntry) : s.removeReject.finish p 0x0D ⟨.ok, e.serial⟩ = taken e := by
    rw [State.removeReject_eq]
  refine ⟨fun long gather e rest list => ?_, fun long gather empty => ?_, fun long other => ?_, fun short => ?_,
    fun gather e rest list => ?_, fun h => ?_, fun none_ => ?_, fun entry gone taking => ⟨fun short => ?_,
      fun long other => ?_, fun long gather none_ => ?_, fun long gather e entry_ => ⟨fun stays => ?_,
        fun gone_ => ?_⟩⟩⟩
  · refine whenRunning_answer running ((s.wholeTake_eq p n).trans ?_)
    rw [if_neg (Nat.not_lt.2 long), if_neg (not_not_intro gather), State.entryToTake_gather gather, list,
      List.head?_cons, ← removed e, State.takeOutcome, if_pos trivial]
  · refine whenRunning_answer running ((s.wholeTake_eq p n).trans ?_)
    rw [if_neg (Nat.not_lt.2 long), if_neg (not_not_intro gather), State.entryToTake_none (.inr empty)]
    rfl
  · refine whenRunning_answer running ((s.wholeTake_eq p n).trans ?_)
    rw [if_neg (Nat.not_lt.2 long), if_pos other]
  · exact whenRunning_answer running ((s.wholeTake_eq p n).trans (if_pos short))
  · refine whenRunning_answer running ((s.beginTake_eq p).trans ?_)
    rw [State.entryToTake_gather gather, list]
    rfl
  · refine whenRunning_answer running ((s.beginTake_eq p).trans ?_)
    rw [State.entryToTake_none h]
    rfl
  · exact whenRunning_answer running (by simp only [State.endTake, none_])
  · exact whenRunning_answer running ((State.endTake_taking taking n).trans (if_pos short))
  · refine whenRunning_answer running ((State.endTake_taking taking n).trans ?_)
    rw [if_neg (Nat.not_lt.2 long), if_pos other]
  · refine whenRunning_answer running ((State.endTake_taking taking n).trans ?_)
    rw [if_neg (Nat.not_lt.2 long), if_neg (not_not_intro gather), none_]
    rfl
  · refine whenRunning_answer running ((State.endTake_taking taking n).trans ?_)
    rw [if_neg (Nat.not_lt.2 long), if_neg (not_not_intro gather), entry_, ← removed e]
    exact if_pos stays
  · refine whenRunning_answer running ((State.endTake_taking taking n).trans ?_)
    rw [if_neg (Nat.not_lt.2 long), if_neg (not_not_intro gather), entry_]
    exact if_neg gone_

end Sys2Proof.Machine
end

section
/-!
PROOF. Timers, sensors, windows and holds: missed stations (R94), HOLD and RESUME (R20, R21), the sensors (R5, R6), the
supply (R178, R179), cam windows (R135 to R137), the pots' timers (R119 to R122), and the timers of books and lifts.
-/

namespace Sys2Proof.Machine

variable {s : State} {p : PortId}

/-! ### Timers -/

theorem isDue_eq_false {now : Nat} {timer : Option Nat} (h : timer = none ∨ ∃ due, timer = some due ∧ now < due) :
    isDue now timer = false := by
  obtain rfl | ⟨due, rfl, early⟩ := h
  · rfl
  · exact decide_eq_false (Nat.not_le.2 early)

theorem isDue_eq_false_of_not {now : Nat} {timer : Option Nat} (h : ¬ ∃ due, timer = some due ∧ due ≤ now) :
    isDue now timer = false :=
  Bool.eq_false_iff.2 (mt isDue_iff.1 h)

/-! ### Missed stations (R94) and causes (R43) -/

section Missed

variable {n : Nat} {b : Book} (found : s.findBook n = some b)
include found

theorem State.missStation_sideGlue : s.missStation n .sideGlue =
    if (b.setPoints.bind SetPoints.sideWindow).isSome = true ∧ s.glue.side.enabled = true
    then s.setCause n .glueInterrupted else s := by
  unfold State.missStation
  simp only [found, Option.bind_some]
  cases b.setPoints <;> simp

theorem State.missStation_nip : s.missStation n .nip =
    if b.coverApplied = true then (s.stopOpenTime n).setCause n .openTime else s.stopOpenTime n := by
  simp only [State.missStation, found, Option.any_some]

end Missed

theorem State.missStation_cams (s : State) (n : Nat) (m : Station) : (s.missStation n m).cams = s.cams := by
  cases m with
  | infeed | mill | release | spineGlue | cover => rfl
  | sideGlue =>
    unfold State.missStation
    dsimp only
    split
    · rfl
    · split <;> rfl
  | nip =>
    unfold State.missStation
    dsimp only
    split <;> rfl

theorem State.findBook_setCause_of_ne (s : State) {n m : Nat} (cause : RejectCause) (h : m ≠ n) :
    (s.setCause n cause).findBook m = s.findBook m :=
  s.findBook_mapBook_of_ne _ (Book.takeCause_serial cause) h

/-- Settles O28: station by station. -/
theorem missedStationsCostTheBook : Obligations.MissedStationsCostTheBook := by
  unfold Obligations.MissedStationsCostTheBook
  refine ⟨fun n s b found => ⟨rfl, rfl, fun costs => ?_, fun costs => ?_, rfl, fun covered => ?_, fun bare => ?_,
    s.missStation_cams n⟩, fun n cause s => ⟨fun b found => ?_, fun m other => ?_, rfl, rfl⟩⟩
  · rw [State.missStation_sideGlue found, if_pos costs]
  · rw [State.missStation_sideGlue found, if_neg costs]
  · rw [State.missStation_nip found, if_pos covered]
    rfl
  · rw [State.missStation_nip found, if_neg (by rw [bare]; exact Bool.false_ne_true)]
    rfl
  · rw [State.findBook_setCause_self, found, Book.takeCause_eq_if]
    rfl
  · exact s.findBook_setCause_of_ne cause other

/-! ### HOLD and RESUME (R20 to R22) -/

/-- R20, R131 and R188: the state in which HOLD stands entered. -/
theorem State.enterHold_shown (s : State) (kind : HoldKind) (ret : ReturnMode) :
    s.enterHold kind ret = ({ s.cutGlueWindows with
      clock := { s.clock with mode := .hold kind ret, standstillTimer := none, standstillTravel := 0 }
      stoppage := { s.stoppage with lampA := ⟨true, some (s.now + 1000)⟩, lampB := ⟨false, none⟩ } } : State).raise
        .mode := by
  obtain ⟨now, clock, -, -, -, -, -, -, stoppage, -⟩ := s.cutGlueWindows_frame
  rw [State.enterHold_eq, State.enterMode, clock]
  dsimp only
  rw [now, stoppage]
  rfl

/-- R21 and R22: the return to RUNOUT, while a clamp is occupied and with every clamp empty. -/
theorem State.returnFromHold_runout_occupied (occupied : ∃ entry ∈ s.carousel.clampMap, entry ≠ none) :
    s.returnFromHold .runout = s.startStandstill.enterMode .runout := by
  have occupied : ¬ s.carousel.allEmpty = true := by
    simpa [Carousel.allEmpty_iff] using occupied
  exact if_neg occupied

theorem State.returnFromHold_runout_empty (empty : ∀ entry ∈ s.carousel.clampMap, entry = none) :
    s.returnFromHold .runout = s.enterSetup :=
  if_pos (Carousel.allEmpty_iff.2 empty)

/-- Settles O38: by the mode and the kind of hold. -/
theorem holdAndResumeByMode : Obligations.HoldAndResumeByMode := by
  unfold Obligations.HoldAndResumeByMode
  refine ⟨fun p s running binder => ?_, fun p s running binder => ?_⟩
  · have right := Rights.binder_iff.2 binder
    refine ⟨fun mode => ?_, fun mode => ?_, fun ret mode => ?_, fun ret mode => ?_, fun mode => ?_⟩
    · exact command_answer running right (by simp only [mode, modeTaken, State.enterHold_shown]; rfl)
    · exact command_answer running right (by simp only [mode, modeTaken, State.enterHold_shown]; rfl)
    · exact command_answer running right (by simp only [mode, modeTaken]; rfl)
    · exact command_answer running right (by simp only [mode, modeTaken]; rfl)
    · refine command_answer running right ?_
      obtain mode | mode | mode := mode <;> simp only [mode] <;> rfl
  · have right := Rights.binder_iff.2 binder
    refine ⟨fun mode => ?_, fun mode occupied => ?_, fun mode empty => ?_, fun other => ?_⟩
    · exact command_answer running right (by simp only [mode, modeTaken]; rfl)
    · refine command_answer running right ?_
      simp only [mode, modeTaken, State.returnFromHold_runout_occupied occupied]
      rfl
    · refine command_answer running right ?_
      simp only [mode, modeTaken, State.returnFromHold_runout_empty empty]
      rfl
    · refine command_answer running right ?_
      cases mode : s.clock.mode with
      | hold kind ret =>
        cases kind with
        | commanded => exact absurd mode (other ret)
        | standstill => rfl
      | setup | homing | run | runout | halted => rfl

/-! ### Sensors (R5, R6) -/

theorem EdgeSelect.reports_iff {e : EdgeSelect} {level : Bool} : e.reports level = true ↔
    (e = .rising ∧ level = true) ∨ (e = .falling ∧ level = false) ∨ e = .both := by
  cases e <;> simp [EdgeSelect.reports]

theorem State.modifySensor_modifySensor (s : State) (n : Sensor) (f g : Conditioner → Conditioner) :
    (s.modifySensor n f).modifySensor n g = s.modifySensor n fun c => g (f c) := by
  simp only [State.modifySensor, Vector.set_set, Fin.getElem_fin, Vector.getElem_set_self]

theorem State.modifySensor_get (s : State) (n : Sensor) (f : Conditioner → Conditioner) :
    (s.modifySensor n f).clock.sensors[sensorIndex n] = f s.clock.sensors[sensorIndex n] :=
  Vector.getElem_set_self ..

/-- R6: a conditioned change is reported by the edge select. -/
theorem State.conditionedChange_eq (s : State) (n : Sensor) (level : Bool) :
    let t := s.modifySensor n fun c => { c with level := level, pending := none }
    (s.clock.sensors[sensorIndex n].edge.reports level = true → s.conditionedChange n level = t.sensorEdge n)
    ∧ (¬ s.clock.sensors[sensorIndex n].edge.reports level = true → s.conditionedChange n level = t) :=
  ⟨fun h => if_pos h, fun h => if_neg h⟩

/-- Settles O42: by the raw level, the debounce time and the edge select. -/
theorem sensorsAreConditioned : Obligations.SensorsAreConditioned := by
  unfold Obligations.SensorsAreConditioned
  intro n level s running c with_ reported
  have reports (new : Bool) : reported c.edge new ↔ c.edge.reports new = true := EdgeSelect.reports_iff.symm
  have edge : ((s.modifySensor n fun c => { c with raw := level }).clock.sensors[sensorIndex n]).edge = c.edge := by
    rw [State.modifySensor_get]
  have changed := (s.modifySensor n fun c => { c with raw := level }).conditionedChange_eq n level
  rw [edge, State.modifySensor_modifySensor] at changed
  refine ⟨fun same => whenRunning_answer running ?_, fun new back => whenRunning_answer running ?_,
    fun new away debounce => whenRunning_answer running ?_,
    fun new away none_ => ⟨fun told => whenRunning_answer running ?_, fun silent => whenRunning_answer running ?_⟩,
    fun due pending reached => ⟨fun told => whenRunning_answer running ?_, fun silent => whenRunning_answer running ?_⟩,
    fun due pending early => whenRunning_answer running ?_, fun pending => whenRunning_answer running ?_⟩
  · exact if_pos same
  · rw [if_neg new, if_pos back, State.modifySensor_modifySensor]
    rfl
  · rw [if_neg new, if_neg away, if_neg debounce.ne', State.modifySensor_modifySensor]
    rfl
  · rw [if_neg new, if_neg away, if_pos none_, changed.1 ((reports level).1 told)]
    rfl
  · rw [if_neg new, if_neg away, if_pos none_, changed.2 (mt (reports level).2 silent)]
    rfl
  · rw [if_pos (isDue_iff.2 ⟨due, pending, reached⟩)]
    exact (s.conditionedChange_eq n (!c.level)).1 ((reports _).1 told)
  · rw [if_pos (isDue_iff.2 ⟨due, pending, reached⟩)]
    exact (s.conditionedChange_eq n (!c.level)).2 (mt (reports _).2 silent)
  · exact if_neg (by rw [isDue_eq_false (.inr ⟨due, pending, early⟩)]; exact Bool.false_ne_true)
  · exact if_neg (by rw [isDue_eq_false (.inl pending)]; exact Bool.false_ne_true)

/-! ### The supply (R178, R179) -/

/-- R24: SUPPLY halts the line in every mode but HALTED. -/
theorem State.takeHaltCause_supply (mode : s.clock.mode ≠ .halted) :
    s.takeHaltCause .supply = s.enterHalted .supply := by
  unfold State.takeHaltCause
  cases at_ : s.clock.mode with
  | halted => exact absurd at_ mode
  | setup | homing | run | hold kind ret | runout => rfl

theorem State.takeHaltCause_halted {cause : HaltCause} (mode : s.clock.mode = .halted) :
    s.takeHaltCause cause = { s with stoppage := { s.stoppage with furtherCause := true } } := by
  unfold State.takeHaltCause
  rw [mode]

/-- Settles O44: by the monitor's state, the supply action and the mode. -/
theorem supplyDipsAreActedOnOnce : Obligations.SupplyDipsAreActedOnOnce := by
  unfold Obligations.SupplyDipsAreActedOnOnce
  intro s running dipped
  refine ⟨execSupplyDipStart_clear, execSupplyDipStart_dipping, rfl, fun other => whenRunning_answer running ?_,
    fun dips freeze => ⟨fun mode => whenRunning_answer running ?_, fun mode => whenRunning_answer running ?_⟩,
    fun dips reset => whenRunning_answer running ?_⟩
  · cases supply : s.stoppage.supply with
    | clear => rfl
    | dipping taken =>
      cases taken with
      | true => rfl
      | false => exact absurd supply other
  · simp only [dips, freeze]
    exact State.takeHaltCause_halted (s := dipped) mode
  · simp only [dips, freeze]
    exact State.takeHaltCause_supply (s := dipped) mode
  · simp only [dips, reset]
    exact State.beginReset_running (s := dipped) .supply running

/-! ### Cam windows (R135 to R137) -/

/-- Settles O45: a window ends where its travel is at start plus length. -/
theorem windowsBeginAndEnd : Obligations.WindowsBeginAndEnd := by
  unfold Obligations.WindowsBeginAndEnd
  refine ⟨fun c clamp start length s => ?_, fun windowE e w => ?_⟩
  · intro set_
    refine ⟨fun some_ => ?_, fun none_ => ?_, rfl, fun windowE w => rfl,
      fun running w window => ⟨fun ended => whenRunning_answer running ?_, fun goes => whenRunning_answer running ?_⟩⟩
    · have goes : (⟨clamp, start, length, 0⟩ : CamWindow).ended = false := decide_eq_false (Nat.not_le.2 some_)
      simp only [State.beginWindow, goes]
      rfl
    · have ended : (⟨clamp, start, length, 0⟩ : CamWindow).ended = true := decide_eq_true none_.le
      simp only [State.beginWindow, ended]
      rfl
    · rw [window, Option.any_some, CamWindow.ended, if_pos (decide_eq_true ended)]
    · rw [window, Option.any_some, CamWindow.ended, if_neg (by simpa using goes)]
  · unfold glueWindowBegun
    refine ⟨fun same => if_pos same, fun other fits => ?_, fun other beyond inside => ?_,
      fun other beyond outside_ => ?_,
      fun fits => ?_⟩
    · rw [if_neg other, if_pos fits]
    · rw [if_neg other, if_neg (Nat.not_le.2 beyond), if_pos inside]
    · rw [if_neg other, if_neg (Nat.not_le.2 beyond), if_neg (Nat.not_lt.2 outside_)]
    · split_ifs with same within inside
      · exact same ▸ fits
      · exact within
      · exact (Nat.add_sub_cancel' inside.le).le
      · exact le_rfl

/-! ### The pots' timers (R119 to R122) -/

/-- R119 to R121: a pot that enters a state in which neither the settle nor the heat-up timer runs. -/
theorem State.enterPotState_ready (s : State) (id : PotId) : s.enterPotState id .ready = (s.modifyPot id fun q =>
    { q with state := .ready, settle := none, heatUp := none, stale := (s.glue.pot id).stale }).raise .glue := by
  cases id <;> rfl

theorem State.enterPotState_fault (s : State) (id : PotId) : s.enterPotState id .fault = (s.modifyPot id fun q =>
    { q with state := .fault, settle := none, heatUp := none, stale := (s.glue.pot id).stale }).raise .glue := by
  cases id <;> rfl

theorem State.enterPotState_unknown (s : State) (id : PotId) : s.enterPotState id .unknown = (s.modifyPot id fun q =>
    { q with state := .unknown, settle := none, heatUp := none, stale := none }).raise .glue := by
  cases id <;> rfl

theorem potOf_of_le {pot : Byte} (h : 2 ≤ pot.toNat) : potOf pot = none := by
  unfold potOf
  split
  next zero => omega
  next one => omega
  next => rfl

theorem potOf_of_eq {pot : Byte} {id : PotId} (h : (pot.toNat = 0 ∧ id = .spine) ∨ (pot.toNat = 1 ∧ id = .side)) :
    potOf pot = some id := by
  obtain ⟨n, rfl⟩ | ⟨n, rfl⟩ := h <;> simp only [potOf, n]

/-- Settles O48: timer by timer. -/
theorem potTimersAndFault : Obligations.PotTimersAndFault := by
  unfold Obligations.PotTimersAndFault
  intro id s running q entered due notDue
  refine ⟨fun due => whenRunning_answer running ?_, fun early => whenRunning_answer running ?_,
    fun due => whenRunning_answer running ?_, fun early => whenRunning_answer running ?_,
    fun due other => whenRunning_answer running ?_, fun due fault => whenRunning_answer running ?_,
    fun early => whenRunning_answer running ?_, fun p pot binder => ⟨fun none_ => ?_, fun some_ =>
      ⟨fun fault => ?_, fun other => ?_⟩⟩⟩
  · rw [if_pos (isDue_iff.2 due)]
    exact s.enterPotState_ready id
  · exact if_neg (by rw [isDue_eq_false early]; exact Bool.false_ne_true)
  · rw [if_pos (isDue_iff.2 due)]
    exact s.enterPotState_fault id
  · exact if_neg (by rw [isDue_eq_false early]; exact Bool.false_ne_true)
  · rw [if_pos (isDue_iff.2 due), if_neg other]
    exact s.enterPotState_unknown id
  · rw [if_pos (isDue_iff.2 due), if_pos fault]
  · exact if_neg (by rw [isDue_eq_false early]; exact Bool.false_ne_true)
  · refine command_answer running (Rights.binder_iff.2 binder) ?_
    simp only [potOf_of_le none_]
    rfl
  · have changed : s.changePot id .unknown = entered .unknown none := by
      refine (if_neg ?_).trans ((if_neg ?_).trans (s.enterPotState_unknown id))
      · rw [show (s.glue.pot id).state = .fault from fault]
        simp
      · simp
    refine command_answer running (Rights.binder_iff.2 binder) ?_
    simp only [potOf_of_eq some_]
    rw [if_pos fault, changed]
    rfl
  · refine command_answer running (Rights.binder_iff.2 binder) ?_
    simp only [potOf_of_eq some_]
    rw [if_neg other]
    rfl

/-! ### The timers of books (R129, R149) and lifts (R165, R171) -/

/-- Settles O49: timer by timer. -/
theorem bookTimersExpire : Obligations.BookTimersExpire := by
  unfold Obligations.BookTimersExpire
  intro serial s running n due
  refine ⟨fun none_ => ⟨whenRunning_answer running ?_, whenRunning_answer running ?_⟩, fun b found =>
    ⟨fun reached => whenRunning_answer running ?_, fun early => whenRunning_answer running ?_,
      fun cooling reached => ⟨fun other => whenRunning_answer running ?_, fun head => whenRunning_answer running ?_⟩,
      fun not => whenRunning_answer running ?_⟩⟩
  · rw [show s.findBook serial.toNat = none from none_]
    rfl
  · simp only [show s.findBook serial.toNat = none from none_]
  · rw [show s.findBook serial.toNat = some b from found, Option.bind_some, if_pos (isDue_iff.2 reached)]
    rfl
  · rw [show s.findBook serial.toNat = some b from found, Option.bind_some, isDue_eq_false_of_not early]
    rfl
  · simp only [show s.findBook serial.toNat = some b from found]
    rw [if_pos ⟨cooling, isDue_iff.2 reached⟩, if_neg other]
  · simp only [show s.findBook serial.toNat = some b from found]
    rw [if_pos ⟨cooling, isDue_iff.2 reached⟩, if_pos head]
  · simp only [show s.findBook serial.toNat = some b from found]
    refine if_neg fun both => ?_
    exact not.elim (fun other => other both.1) fun early => early (isDue_iff.1 both.2)

/-- Settles O51: timer by timer. -/
theorem liftsCloseAndRunOverdue : Obligations.LiftsCloseAndRunOverdue := by
  unfold Obligations.LiftsCloseAndRunOverdue
  refine ⟨fun n s => rfl, fun s running => ⟨fun l isOpen reached => whenRunning_answer running ?_,
    fun l isOpen early => whenRunning_answer running ?_, fun none_ => whenRunning_answer running ?_,
    fun l goes early => whenRunning_answer running ?_, fun l goes reached => whenRunning_answer running ?_,
    fun none_ => whenRunning_answer running ?_, fun p trim => ⟨fun l isOpen => ?_, fun none_ => ?_⟩⟩⟩
  · simp only [isOpen]
    exact if_pos (isDue_iff.2 reached)
  · simp only [isOpen]
    exact if_neg (mt isDue_iff.1 early)
  · simp only [none_]
  · simp only [goes]
    exact if_neg (mt isDue_iff.1 early)
  · simp only [goes]
    exact if_pos (isDue_iff.2 reached)
  · simp only [none_]
  · exact command_answer running (Rights.trim_iff.2 trim) (by simp only [isOpen]; rfl)
  · exact command_answer running (Rights.trim_iff.2 trim) (by simp only [none_]; rfl)

end Sys2Proof.Machine
end

section
/-!
PROOF. The Carousel: the locks and RESOLVE CLAMP (R82, R182), station events (R92 to R94), what each working station
does (R93, R110, R125 to R128), Release (R95 to R97), and admission (R87 to R90).
-/

namespace Sys2Proof.Machine

variable {s : State} {p : PortId}

/-- R195: a command from a port without the right. -/
theorem command_answer_refused {code : Byte} {rights : Role → Bool} {subject : Nat} {body : State → State × Reply}
    (running : s.stoppage.held = false) (right : rights s.ports[p].role = false) :
    (.next (s.command p code rights subject body) : Answer) = .next (s.finish p code ⟨.refusedRole, subject⟩) :=
  congrArg Host.Outcome.next (State.command_refused running right)

/-! ### Emptying a clamp (R22, R97) -/

/-- R97: in every mode but RUNOUT, and while another clamp is occupied, the entry alone changes. -/
theorem State.emptyClamp_alone {clamp : Nat}
    (h : s.clock.mode ≠ .runout ∨ ∃ entry ∈ s.carousel.clampMap.set clamp none, entry ≠ none) :
    s.emptyClamp clamp
      = { s with carousel := { s.carousel with clampMap := s.carousel.clampMap.set clamp none } } := by
  refine if_neg fun both => ?_
  obtain ⟨mode, empty⟩ := both
  obtain ⟨entry, mem, some_⟩ := h.resolve_left (not_not_intro mode)
  exact some_ (Carousel.allEmpty_iff.1 empty entry mem)

/-- R22: the emptying that leaves every entry empty ends a RUNOUT. -/
theorem State.emptyClamp_runout {clamp : Nat} (mode : s.clock.mode = .runout)
    (empty : ∀ entry ∈ s.carousel.clampMap.set clamp none, entry = none) :
    s.emptyClamp clamp = State.enterSetup
      { s with carousel := { s.carousel with clampMap := s.carousel.clampMap.set clamp none } } :=
  if_pos ⟨mode, Carousel.allEmpty_iff.2 empty⟩

/-! ### Locks and RESOLVE CLAMP (R82, R182, R183) -/

theorem execLockClamp_taken {clamp : Byte} (lock : Bool) (code : Byte) (running : s.stoppage.held = false)
    (role : s.ports[p].role ≠ .observer) (inside : clamp.toNat < s.clock.geometry.clampCount) :
    (.next (s.command p code Rights.notObserver clamp.toNat (State.setLock clamp lock)) : Answer)
      = .next (State.finish p code ⟨.ok, clamp.toNat⟩
        { s with carousel := { s.carousel with locks := s.carousel.locks.setIfInBounds clamp.toNat lock } }) :=
  command_answer running (Rights.notObserver_iff.2 role) (if_pos inside)

theorem execLockClamp_range {clamp : Byte} (lock : Bool) (code : Byte) (running : s.stoppage.held = false)
    (role : s.ports[p].role ≠ .observer) (outside_ : s.clock.geometry.clampCount ≤ clamp.toNat) :
    (.next (s.command p code Rights.notObserver clamp.toNat (State.setLock clamp lock)) : Answer)
      = .next (s.finish p code ⟨.refusedRange, clamp.toNat⟩) :=
  command_answer running (Rights.notObserver_iff.2 role) (if_neg (Nat.not_lt.2 outside_))

/-- R81: a lock after the write of one. -/
theorem Carousel.locked_setLock (c : Carousel) {clamp : Nat} (lock : Bool) (inside : clamp < 32) (other : Nat) :
    ({ c with locks := c.locks.setIfInBounds clamp lock } : Carousel).locked other
      = if other = clamp then lock else c.locked other := by
  unfold Carousel.locked
  rw [Vector.getElem?_setIfInBounds]
  by_cases same : clamp = other
  · rw [if_pos same, if_pos inside, if_pos same.symm]
    rfl
  · rw [if_neg same, if_neg (Ne.symm same)]

/-- R182: a clamp's book is resolved once every test has passed. -/
theorem State.resolveClamp_taken {clamp decision : Byte} {n : Nat} (mode : s.clock.mode = .setup)
    (inside : clamp.toNat < s.clock.geometry.clampCount) (names : decision.toNat < 2)
    (book : s.carousel.bookIn clamp.toNat = some n) : s.resolveClamp clamp decision =
      (if decision = 0 then s.keepBook n else s.removeBook n clamp.toNat, .ok clamp.toNat) := by
  simp only [State.resolveClamp, mode, ne_eq, not_true_eq_false, Nat.not_le.2 inside,
    Nat.not_lt.2 (Nat.le_of_lt_succ names), if_false, book]

theorem State.resolveClamp_empty {clamp decision : Byte} (mode : s.clock.mode = .setup)
    (inside : clamp.toNat < s.clock.geometry.clampCount) (names : decision.toNat < 2)
    (book : s.carousel.bookIn clamp.toNat = none) :
    s.resolveClamp clamp decision = (s, ⟨.refusedUnknown, clamp.toNat⟩) := by
  simp only [State.resolveClamp, mode, ne_eq, not_true_eq_false, Nat.not_le.2 inside,
    Nat.not_lt.2 (Nat.le_of_lt_succ names), if_false, book]
  rfl

theorem State.resolveClamp_mode {clamp decision : Byte} (mode : s.clock.mode ≠ .setup) :
    s.resolveClamp clamp decision = (s, ⟨.refusedMode, clamp.toNat⟩) := if_pos mode

theorem State.resolveClamp_range {clamp decision : Byte} (mode : s.clock.mode = .setup)
    (h : s.clock.geometry.clampCount ≤ clamp.toNat ∨ 2 ≤ decision.toNat) :
    s.resolveClamp clamp decision = (s, ⟨.refusedRange, clamp.toNat⟩) := by
  rw [State.resolveClamp, if_neg (not_not_intro mode)]
  by_cases outside_ : s.clock.geometry.clampCount ≤ clamp.toNat
  · exact if_pos outside_
  · rw [if_neg outside_]
    exact if_pos (h.resolve_left outside_)

/-- R183: REMOVE in SETUP. -/
theorem State.removeBook_setup (n clamp : Nat) (mode : s.clock.mode = .setup) : s.removeBook n clamp =
    { ({ s with due := s.due.filter fun e => e.serial != n } : State).retireRejected n .recovery .removed with
      carousel := { s.carousel with clampMap := s.carousel.clampMap.set clamp none } } := by
  have other : ((s.leaveDue n).retireRejected n .recovery .removed).clock.mode ≠ .runout := by
    simp only [State.retireRejected_frame]
    rw [show (s.leaveDue n).clock = s.clock from rfl, mode]
    simp
  have carousel : ((s.leaveDue n).retireRejected n .recovery .removed).carousel = s.carousel := by
    simp only [State.retireRejected_frame]
    rfl
  rw [State.removeBook, State.emptyClamp_alone (.inl other), carousel]
  rfl

/-- Settles O24: the locks, and RESOLVE CLAMP test by test. -/
theorem clampsAreLockedAndResolved : Obligations.ClampsAreLockedAndResolved := by
  unfold Obligations.ClampsAreLockedAndResolved
  refine ⟨fun p clamp s running count => ⟨fun observer => ⟨?_, ?_⟩, fun role outside_ => ⟨?_, ?_⟩,
    fun role inside => ?_⟩, fun p clamp decision s running binder => ?_⟩
  · exact command_answer_refused running (by rw [observer]; rfl)
  · exact command_answer_refused running (by rw [observer]; rfl)
  · exact execLockClamp_range true 0x60 running role outside_
  · exact execLockClamp_range false 0x61 running role outside_
  · refine ⟨_, _, execLockClamp_taken true 0x60 running role inside, execLockClamp_taken false 0x61 running role inside,
      rfl, rfl, rfl, rfl, fun c => ?_, fun c => ?_⟩
    · rw [Carousel.locked_setLock _ _ (inside.trans_le count)]
      split
      next same => simp [same]
      next other => simp [other]
    · rw [Carousel.locked_setLock _ _ (inside.trans_le count)]
      split
      next same => simp [same]
      next other => simp [other]
  · have right := Rights.binder_iff.2 binder
    refine ⟨fun mode => ⟨?_, ?_⟩, fun mode outside_ => ⟨?_, ?_⟩, fun mode unnamed => ?_,
      fun mode inside none_ => ⟨fun keeps => ?_, ?_⟩, fun mode inside n book => ⟨fun keeps => ?_, ?_⟩⟩
    · exact command_answer running right (State.resolveClamp_mode mode)
    · exact command_answer running right (State.resolveClamp_mode mode)
    · exact command_answer running right (State.resolveClamp_range mode (.inl outside_))
    · exact command_answer running right (State.resolveClamp_range mode (.inl outside_))
    · exact command_answer running right (State.resolveClamp_range mode (.inr unnamed))
    · subst keeps
      exact command_answer running right (State.resolveClamp_empty mode inside (by decide) none_)
    · exact command_answer running right (State.resolveClamp_empty mode inside (by decide) none_)
    · subst keeps
      exact command_answer running right (State.resolveClamp_taken mode inside (by decide) book)
    · refine command_answer running right ((State.resolveClamp_taken mode inside (by decide) book).trans ?_)
      rw [if_neg (by decide), State.removeBook_setup n clamp.toNat mode]
      rfl

/-! ### Station events (R92 to R94) -/

/-- R9: a station other than Infeed that fires sets its mark and works on its clamp's book. -/
theorem State.fireStation_work {st : Station} (work : st ≠ .infeed) (s : State) : s.fireStation st =
    ({ s with clock := { s.clock with fired := s.clock.fired.set st.index true } } : State).workEvent st
      (s.clock.clampAt st) := by
  cases st with
  | infeed => exact absurd rfl work
  | mill | spineGlue | sideGlue | cover | nip | release => rfl

theorem State.workEvent_empty {st : Station} {clamp : Nat} (empty : s.carousel.bookIn clamp = none) :
    s.workEvent st clamp = s := by
  simp only [State.workEvent, empty]

theorem State.workEvent_book {st : Station} {clamp n : Nat} {b : Book} (book : s.carousel.bookIn clamp = some n)
    (found : s.findBook n = some b) : s.workEvent st clamp = if b.concernedBy st = true
      then ((missedStations b.progress st).foldl (State.missStation n) s).actAt st clamp n else s := by
  simp only [State.workEvent, book, found]

/-- Settles O27: by the clamp's book and its progress. -/
theorem stationEventsConcernBooksBehindThem : Obligations.StationEventsConcernBooksBehindThem := by
  unfold Obligations.StationEventsConcernBooksBehindThem
  intro st s work clamp u
  rw [State.fireStation_work work]
  refine ⟨fun empty => State.workEvent_empty empty, fun n b book found => ⟨fun beyond => ?_, fun behind => ?_⟩⟩
  · exact (State.workEvent_book (s := u) book found).trans (if_neg (by simpa [Book.concernedBy] using beyond))
  · exact (State.workEvent_book (s := u) book found).trans (if_pos (by simpa [Book.concernedBy] using behind))

/-! ### The working stations (R93, R110, R125, R126, R128) -/

section Working

variable {clamp n : Nat} {b : Book} (found : s.findBook n = some b)
include found

/-- R93: the book's progress becomes the station, and the station's own rule follows. -/
theorem State.actAt_found (st : Station) : s.actAt st clamp n =
    let t := s.mapBook n fun b => { b with progress := some st }
    match st with
    | .infeed => s
    | .mill => t.beginFixed Channel.mill clamp
    | .spineGlue => t.spineGlueCheck b clamp
    | .sideGlue => t.sideGlueCheck b clamp
    | .cover => t.coverDecision b clamp
    | .nip => t.nipEvent b clamp
    | .release => s.releaseEvent b clamp := by
  cases st with
  | infeed | mill | spineGlue | sideGlue | cover | nip | release => simp only [State.actAt, found]

end Working

/-- Settles O29: station by station. -/
theorem workingStationsActByCauseAndPot : Obligations.WorkingStationsActByCauseAndPot := by
  unfold Obligations.WorkingStationsActByCauseAndPot
  intro clamp n s b found at_
  obtain ⟨serial, -⟩ := State.findBook_some found
  refine ⟨State.actAt_found found .mill, fun cause => ⟨?_, ?_⟩, fun cause r record =>
    ⟨fun ready => ?_, fun other => ?_, fun none_ => ?_, fun w window enabled => ⟨fun ready => ?_, fun other => ?_⟩⟩,
    fun covered cause => ?_, fun passes => ?_⟩
  · exact (State.actAt_found found .spineGlue).trans (if_pos (Option.isSome_iff_ne_none.2 cause))
  · exact (State.actAt_found found .sideGlue).trans (if_pos (Option.isSome_iff_ne_none.2 cause))
  · refine (State.actAt_found found .spineGlue).trans ((if_neg (by simp [cause])).trans ((if_pos ready).trans ?_))
    rw [record, serial]
    rfl
  · refine (State.actAt_found found .spineGlue).trans ((if_neg (by simp [cause])).trans ((if_neg other).trans ?_))
    rw [serial]
  · refine (State.actAt_found found .sideGlue).trans ((if_neg (by simp [cause])).trans ?_)
    simp only [record]
    obtain none_ | off := none_
    · simp only [none_]
      rfl
    · cases r.sideWindow with
      | none => rfl
      | some w => exact if_pos (by rw [show (at_ .sideGlue).glue = s.glue from rfl, off]; rfl)
  · refine (State.actAt_found found .sideGlue).trans ((if_neg (by simp [cause])).trans ?_)
    simp only [record, window]
    exact (if_neg (by simp [enabled])).trans (if_pos ready)
  · refine (State.actAt_found found .sideGlue).trans ((if_neg (by simp [cause])).trans ?_)
    simp only [record, window]
    refine (if_neg (by simp [enabled])).trans ((if_neg other).trans ?_)
    rw [serial]
  · refine (State.actAt_found found .nip).trans ((if_pos ⟨covered, cause⟩).trans ?_)
    rw [serial]
    rfl
  · refine (State.actAt_found found .nip).trans ((if_neg ?_).trans ?_)
    · rintro ⟨covered, clean⟩
      exact passes.elim (fun bare => by simp [bare] at covered) fun cause => cause clean
    · rw [serial]
      rfl

/-! ### Covers (R107 to R110) -/

section Reports

variable {n : Nat} {coverId : Word32} {e : DueEntry} {b : Book}

theorem State.coverSeen_none (none_ : s.dueEntry n = none) : s.coverSeen n coverId = s.lateReport n := by
  simp only [State.coverSeen, none_]

theorem State.coverSeen_some (entry : s.dueEntry n = some e) (found : s.findBook n = some b) :
    s.coverSeen n coverId = if e.received = true then (s, ⟨.duplicate, n⟩)
      else if b.cause.isSome = true then (s.recordReport n coverId, ⟨.notApplied, n⟩)
      else if b.coverMatches coverId = true then (s.recordReport n coverId, ⟨.ok, n⟩)
      else ((s.recordReport n coverId).setCause n .coverMismatch, ⟨.notApplied, n⟩) := by
  simp only [State.coverSeen, entry, found]
  rfl

theorem Book.coverMatches_iff : b.coverMatches coverId = true ↔ b.expectedCover = 0 ∨ b.expectedCover = coverId := by
  simp only [Book.coverMatches, Bool.or_eq_true, beq_iff_eq]

end Reports

/-- Settles O30: by the due list and the book. -/
theorem coverReportsAndTheCoverDecision : Obligations.CoverReportsAndTheCoverDecision := by
  unfold Obligations.CoverReportsAndTheCoverDecision
  refine ⟨fun p serial coverId s running cover => ?_, fun clamp n s b found => ?_⟩
  · have right := Rights.cover_iff.2 cover
    refine ⟨fun e b entry found => ⟨fun received => ?_, fun first cause => ?_, fun first clean belongs => ?_,
      fun first clean other another => ?_⟩, fun none_ => ⟨fun noBook => ?_, fun b found =>
        ⟨fun queued => ?_, fun notAnnounced notSealed => ?_⟩⟩⟩
    · exact command_answer running right ((State.coverSeen_some entry found).trans (if_pos received))
    · refine command_answer running right ((State.coverSeen_some entry found).trans ?_)
      rw [first, if_neg Bool.false_ne_true, if_pos (Option.isSome_iff_ne_none.2 cause)]
      rfl
    · refine command_answer running right ((State.coverSeen_some entry found).trans ?_)
      rw [first, if_neg Bool.false_ne_true, clean, Option.isSome_none, if_neg Bool.false_ne_true,
          if_pos (Book.coverMatches_iff.2 belongs)]
      rfl
    · refine command_answer running right ((State.coverSeen_some entry found).trans ?_)
      have mismatch : ¬ b.coverMatches coverId = true :=
        mt Book.coverMatches_iff.1 fun belongs => belongs.elim other another
      rw [first, if_neg Bool.false_ne_true, clean, Option.isSome_none, if_neg Bool.false_ne_true, if_neg mismatch]
      rfl
    · refine command_answer running right ((State.coverSeen_none none_).trans ?_)
      simp only [State.lateReport, noBook]
      rfl
    · refine command_answer running right ((State.coverSeen_none none_).trans ?_)
      simp only [State.lateReport, found]
      obtain state | state := queued <;> rw [state] <;> rfl
    · refine command_answer running right ((State.coverSeen_none none_).trans ?_)
      simp only [State.lateReport, found]
      cases state : b.state with
      | announced => exact absurd state notAnnounced
      | inClamp | cooling | ready | inLift | cutting => rfl
      | _ => exact absurd state notSealed
  · obtain ⟨serial, -⟩ := State.findBook_some found
    refine ⟨fun cause => ?_, fun clean e entry => ⟨fun received => ?_, fun late => ?_⟩⟩
    · refine (State.actAt_found found .cover).trans ((if_pos (Option.isSome_iff_ne_none.2 cause)).trans ?_)
      rw [serial]
      rfl
    · refine (State.actAt_found found .cover).trans ((if_neg (by simp [clean])).trans ((if_pos ?_).trans ?_))
      · rw [serial]
        exact (congrArg (Option.any DueEntry.received) entry).trans received
      · rw [serial]
        rfl
    · refine (State.actAt_found found .cover).trans ((if_neg (by simp [clean])).trans ((if_neg ?_).trans ?_))
      · rw [serial]
        exact fun h => Bool.false_ne_true (late.symm.trans
          ((congrArg (Option.any DueEntry.received) entry).symm.trans h))
      · rw [serial]
        rfl

/-! ### Release (R95 to R97) -/

/-- Settles O31: the two ways of Release, and the emptying of a clamp. -/
theorem releaseByCause : Obligations.ReleaseByCause := by
  unfold Obligations.ReleaseByCause
  refine ⟨fun clamp n s b found => ?_, fun clamp s => ⟨fun mode empty => ?_, fun h => ?_⟩⟩
  · obtain ⟨serial, -⟩ := State.findBook_some found
    refine ⟨fun clean r record => ?_, fun cause cause_ => ?_⟩
    · intro u delivered
      have released : s.actAt .release clamp n = delivered.emptyClamp clamp := by
        refine (State.actAt_found found .release).trans ?_
        simp only [State.releaseEvent, clean, State.joinDelivery, record, serial]
        rfl
      rw [released]
      exact ⟨fun mode => State.emptyClamp_alone (s := delivered) (.inl mode), fun _ => rfl⟩
    · intro u
      have released : s.actAt .release clamp n = u.emptyClamp clamp := by
        refine (State.actAt_found found .release).trans ?_
        simp only [State.releaseEvent, cause_, serial]
        rfl
      have clock : u.clock = s.clock := (State.retireRejected_frame _ n .release cause).2.1
      have carousel : u.carousel = s.carousel := (State.retireRejected_frame _ n .release cause).2.2.2.2.1
      rw [released]
      refine ⟨fun mode => ?_, fun _ => rfl⟩
      rw [State.emptyClamp_alone (.inl (by rw [clock]; exact mode)), carousel]
  · exact State.emptyClamp_runout mode empty
  · exact State.emptyClamp_alone h

/-! ### Admission (R87 to R90) -/

theorem State.infeedEvent_admits {clamp : Nat} (holds : s.admissionHolds clamp = true) :
    s.infeedEvent clamp = s.admitBlock clamp := if_pos holds

/-- R88: the record of an admitted book. -/
def Book.admitted (clamp : Nat) (pitch : BitVec 32) (b : Book) : Book :=
  { b with state := .inClamp, clamp := some clamp, progress := some .infeed, admittedAt := some pitch }

theorem Book.admitted_serial (clamp : Nat) (pitch : BitVec 32) (b : Book) :
    (b.admitted clamp pitch).serial = b.serial :=
  rfl

section Admission

variable {clamp : Nat}

/-- R88 and R89: the part with its book admitted, before DUE and CLOSE. -/
def State.admittedRecord (clamp : Nat) (s : State) : State :=
  s.supplyBook.1.mapBook s.supplyBook.2 (Book.admitted clamp s.clock.pitchCounter)

/-- R88: what an admission makes of the Book Table and the due list, by the book supplied. -/
theorem State.admitBlock_books : (s.admitBlock clamp).books
    = { (s.admittedRecord clamp).books with admitted := s.supplyBook.1.books.admitted + 1 } := rfl

theorem State.admitBlock_findBook (n : Nat) :
    (s.admitBlock clamp).findBook n = (s.admittedRecord clamp).findBook n := rfl

theorem State.admitBlock_due {b : Book} (found : (s.admittedRecord clamp).findBook s.supplyBook.2 = some b) :
    (s.admitBlock clamp).due = s.due ++ [⟨s.supplyBook.2, decide (b.cause = none), false⟩] := by
  have want : ((s.admittedRecord clamp).findBook s.supplyBook.2).any (fun b => b.cause.isNone)
      = decide (b.cause = none) := by
    rw [found, Option.any_some]
    cases b.cause <;> rfl
  refine (?_ : _ = s.supplyBook.1.due ++ [⟨s.supplyBook.2, decide (b.cause = none), false⟩]).trans ?_
  · rw [← want]
    rfl
  · rw [(s.supplyBook_frame).2.2.2.2.2.1]

theorem State.admitBlock_port (q : PortId) :
    (s.admitBlock clamp).ports[q] = Port.raise s.now .due s.supplyBook.1.ports[q] := by
  rw [← s.supplyBook_frame.1]
  exact State.raise_get _ .due q

/-- R89: the blocks an admission leaves, but for the Book Table, the due list, the clamp and CLOSE. -/
theorem State.admitBlock_frame (s : State) (clamp : Nat) :
    let t := s.admitBlock clamp
    t.carousel = { s.carousel with clampMap := s.carousel.clampMap.set clamp (some s.supplyBook.2), presence := false }
    ∧ t.cams = (s.beginFixed Channel.close clamp).cams
    ∧ t.clock = s.clock ∧ t.glue = s.glue ∧ t.delivery = s.delivery ∧ t.lifting = s.lifting
    ∧ t.stoppage = s.stoppage ∧ t.setpoints = s.setpoints ∧ t.timers = s.timers ∧ t.now = s.now
    ∧ t.wires = s.wires ∧ t.arriving = s.arriving ∧ t.pending = s.pending := by
  obtain ⟨now, clock, timers, setpoints, carousel, -, glue, cams, delivery, lifting, stoppage, wires, arriving,
    pending⟩ := s.supplyBook_frame
  refine ⟨?_, ?_, clock, glue, delivery, lifting, stoppage, setpoints, timers, now, wires, arriving, pending⟩
  · rw [← carousel]
    rfl
  · refine (?_ : _ = (s.supplyBook.1.beginFixed Channel.close clamp).cams).trans ?_
    · rfl
    · rw [State.beginFixed, State.beginWindow, cams]
      rfl

/-- R80: the clamp holds the book admitted, and every other clamp its own. -/
theorem State.admitBlock_bookIn (holds : s.admissionHolds clamp = true) (c : Nat) :
    (s.admitBlock clamp).carousel.bookIn c = if c = clamp then some s.supplyBook.2 else s.carousel.bookIn c := by
  obtain ⟨-, free, -⟩ := State.admissionHolds_iff.1 holds
  obtain ⟨inside, -⟩ := List.getElem?_eq_some_iff.1 free
  rw [Carousel.bookIn, State.admitBlock_clampMap, getElem?_set_join, Carousel.bookIn]
  by_cases same : c = clamp
  · rw [if_pos ⟨same.symm, inside⟩, if_pos same]
  · rw [if_neg (fun h => same h.1.symm), if_neg same]

end Admission

/-! ### The book supplied (R40) -/

section Supplied

variable {head : Nat} {rest : List Nat}

/-- R40: the head of the queue is sealed first if it is the open book. -/
def State.headSealed (head : Nat) (s : State) : State := if s.openBook = some head then s.sealBook head else s

theorem State.supplyBook_head (queue : s.books.announceQ = head :: rest) : s.supplyBook
    = (({ s.headSealed head with books := { (s.headSealed head).books with announceQ := rest } } : State).raiseSpace
        (rest.length + 1), head) := by
  unfold State.supplyBook
  rw [queue]
  rfl

/-- R38: sealing the head changes its slot and the seal timer alone. -/
theorem State.headSealed_eq (head : Nat) (s : State) : s.headSealed head = { s with books := { s.books with
    slots := (s.headSealed head).books.slots
    sealTimer := if s.openBook = some head then none else s.books.sealTimer } } := by
  unfold State.headSealed
  split <;> rfl

theorem State.findBook_headSealed_of_ne {m : Nat} (other : m ≠ head) :
    (s.headSealed head).findBook m = s.findBook m := by
  unfold State.headSealed
  split
  · exact s.findBook_sealBook_of_ne other
  · rfl

theorem State.supplyBook_head_books (queue : s.books.announceQ = head :: rest) :
    s.supplyBook.1.books = { (s.headSealed head).books with announceQ := rest } := by
  rw [State.supplyBook_head queue]
  exact (State.raiseSpace_frame _ _).2.2.2.1

theorem State.supplyBook_head_findBook (queue : s.books.announceQ = head :: rest) (m : Nat) :
    s.supplyBook.1.findBook m = (s.headSealed head).findBook m :=
  State.findBook_congr (by rw [State.supplyBook_head_books queue]) m

theorem State.supplyBook_head_port (queue : s.books.announceQ = head :: rest) (q : PortId) :
    s.supplyBook.1.ports[q]
      = if s.books.announceQ.length = 8 then Port.raise s.now .space s.ports[q] else s.ports[q] := by
  have ports : (s.headSealed head).ports = s.ports := by rw [State.headSealed_eq]
  have now : (s.headSealed head).now = s.now := by rw [State.headSealed_eq]
  rw [State.supplyBook_head queue, queue, List.length_cons]
  dsimp only
  rw [State.raiseSpace_eq _ _ (by rfl)]
  split
  · rw [State.raise_get]
    dsimp only
    rw [ports, now]
  · dsimp only
    rw [ports]

theorem State.supplyBook_empty (queue : s.books.announceQ = []) : s.supplyBook = ({ s with books := { s.books with
    slots := placeBook s.books.slots (unannouncedBook s.books.nextSerial)
    lastSerial := s.books.nextSerial } }, s.books.nextSerial) := by
  unfold State.supplyBook
  rw [queue]

end Supplied

/-- R28: the serial that is given next is no live book's. -/
theorem BookTable.nextSerial_fresh (t : BookTable) {b : Book} (live : b ∈ t.live) : b.serial ≠ t.nextSerial := by
  intro same
  have held : t.nextSerial ∈ t.serials := same ▸ List.mem_map_of_mem live
  exact (allocated (last := t.lastSerial) t.serials_few).1 held

/-- A change of the record of a serial that a slot has just taken changes that slot alone. -/
theorem State.mapBook_placed {i : Fin Config.slotCount} {x : Book} (f : Book → Book) (t : BookTable)
    (fresh : ∀ b ∈ t.live, b.serial ≠ x.serial) :
    ((t.slots.set i (some x)).map fun slot => slot.map fun b => if b.serial = x.serial then f b else b)
      = t.slots.set i (some (f x)) := by
  ext k h : 1
  rw [Vector.getElem_map, Vector.getElem_set, Vector.getElem_set]
  split
  · simp
  · cases at_ : t.slots[k] with
    | none => rfl
    | some b =>
      have live : b ∈ t.live := BookTable.mem_live.2 (at_ ▸ Vector.mem_toList_iff.2 (Vector.getElem_mem h))
      simp [fresh b live]

/-- Settles O26: by the queue. -/
theorem admissionTakesTheHead : Obligations.AdmissionTakesTheHead := by
  unfold Obligations.AdmissionTakesTheHead
  intro clamp s t
  refine ⟨State.admissionHolds_iff, fun no => if_neg (by rw [no]; exact Bool.false_ne_true), fun holds => ?_⟩
  have same : t = s.admitBlock clamp := State.infeedEvent_admits holds
  clear_value t
  subst same
  obtain ⟨carousel, frame⟩ := s.admitBlock_frame clamp
  intro admitted
  refine ⟨fun head rest b queue found => ?_, fun queue i free lower => ?_, fun c other => ?_,
    by rw [carousel], by rw [carousel], frame⟩
  · have supplied : s.supplyBook.2 = head := by rw [State.supplyBook_head queue]
    have record : (s.admitBlock clamp).findBook head = some (admitted b) := by
      rw [State.admitBlock_findBook, State.admittedRecord, supplied,
        State.findBook_mapBook_self _ _ _ (Book.admitted_serial clamp _),
        State.supplyBook_head_findBook queue]
      exact congrArg (Option.map (Book.admitted clamp s.clock.pitchCounter)) found
    refine ⟨record, fun m other => ?_, ?_, ?_, ?_, fun q => ?_⟩
    · rw [State.admitBlock_findBook, State.admittedRecord, supplied,
        State.findBook_mapBook_of_ne _ _ (Book.admitted_serial clamp _) other, State.supplyBook_head_findBook queue,
        State.findBook_headSealed_of_ne other]
    · have books := State.supplyBook_head_books queue
      rw [State.headSealed_eq] at books
      rw [State.admitBlock_books, State.admittedRecord, State.mapBook, books]
    · have due := State.admitBlock_due (s := s) (clamp := clamp) (supplied.symm ▸ record)
      rwa [supplied] at due
    · rw [State.admitBlock_bookIn holds, if_pos rfl, supplied]
    · rw [State.admitBlock_port, State.supplyBook_head_port queue]
  · intro n
    have supplied := State.supplyBook_empty queue
    rw [placeBook_eq_set (unannouncedBook n) free lower] at supplied
    have serial : s.supplyBook.2 = n := by rw [supplied]
    have record : (s.admittedRecord clamp).books.slots
        = s.books.slots.set i (some ((unannouncedBook n).admitted clamp s.clock.pitchCounter)) := by
      rw [State.admittedRecord, supplied]
      exact State.mapBook_placed (x := unannouncedBook n) _ s.books fun b live => s.books.nextSerial_fresh live
    refine ⟨?_, ?_, ?_, fun q => ?_⟩
    · refine (?_ : _ = { s.books with
        slots := (s.admittedRecord clamp).books.slots, lastSerial := n, admitted := s.books.admitted + 1 }).trans ?_
      · rw [State.admitBlock_books, State.admittedRecord, supplied]
        rfl
      · rw [record]
        rfl
    · have found : (s.admittedRecord clamp).findBook s.supplyBook.2
          = some ((unannouncedBook n).admitted clamp s.clock.pitchCounter) := by
        rw [serial, State.findBook_iff, record]
        refine ⟨i, by simp, rfl, fun j below c at_ => ?_⟩
        rw [Fin.getElem_fin, Vector.getElem_set_ne _ _ (Fin.val_ne_of_ne below.ne')] at at_
        exact s.books.nextSerial_fresh (BookTable.mem_live.2 (at_ ▸ Vector.mem_toList_iff.2 (Vector.getElem_mem _)))
      rw [State.admitBlock_due found, serial]
      rfl
    · rw [State.admitBlock_bookIn holds, if_pos rfl, serial]
    · rw [State.admitBlock_port, supplied]
  · rw [State.admitBlock_bookIn holds, if_neg other]

end Sys2Proof.Machine
end

section
/-!
PROOF. Encoder counts (R1 to R3, R9 to R12, R16, R18): the mark after a count, the stations due at it in their order,
and the limits on travel.
-/

namespace Sys2Proof.Machine

variable {s : State}

/-! ### The standstill timer and the mark -/

/-- R11: every count restarts the standstill timer where it runs. -/
theorem State.restartStandstill_eq (s : State) :
    s.restartStandstill = { s with clock := { s.clock with standstillTimer := s.timerAfterCount } } := by
  unfold State.restartStandstill State.timerAfterCount
  cases mode : s.clock.mode with
  | run | runout => rfl
  | setup | homing | hold kind ret | halted => rfl

/-- R1 and R2: the mark of an advance, with the windows' travel. -/
theorem State.marked_eq (s : State) : s.marked = { s.restartStandstill with
    clock := s.restartStandstill.clock.advance, cams := s.cams.map CamChannel.advance } := by
  rw [State.restartStandstill_eq]
  rfl

theorem State.marked_kept (s : State) : s.marked.clock.mode = s.clock.mode
    ∧ s.marked.clock.geometry = s.clock.geometry ∧ s.marked.clock.homingTravel = s.clock.homingTravel
    ∧ s.marked.clock.standstillTravel = s.clock.standstillTravel := by
  unfold State.marked
  dsimp only
  split <;> exact ⟨rfl, rfl, rfl, rfl⟩

theorem State.marked_mode (s : State) : s.marked.clock.mode = s.clock.mode := s.marked_kept.1

/-- R12 and R14: what an advance does once the stations have fired. -/
def State.travelled (s : State) : State :=
  ({ s with clock := s.clock.countTravel } : State).checkHomingTravel.checkStandstill

/-- R1: a forward count without lag. -/
theorem execForwardCount_advance (running : s.stoppage.held = false) (mode : s.clock.mode ≠ .halted)
    (lag : s.clock.lag = 0) : exec .forwardCount s = .next s.marked.checkPitches.stationRule.travelled := by
  refine whenRunning_answer running ((if_neg mode).trans ((if_neg (by omega)).trans ?_))
  rw [State.marked_eq]
  simp only [State.advance, State.travelled, State.restartStandstill_cams]

/-! ### What a station leaves of the Pitch Clock (R9) -/

/-- R9 and R22: stations change their marks alone; the Release that empties a RUNOUT ends it. -/
structure PitchClock.Fires (c c' : PitchClock) : Prop where
  kept : c' = { c with mode := c'.mode, fired := c'.fired, standstillTimer := c'.standstillTimer }
  mode : c'.mode = c.mode ∨ (c.mode = .runout ∧ c'.mode = .setup)

theorem PitchClock.Fires.refl (c : PitchClock) : c.Fires c := ⟨rfl, .inl rfl⟩

theorem PitchClock.Fires.trans {a b c : PitchClock} (ab : a.Fires b) (bc : b.Fires c) : a.Fires c := by
  refine ⟨?_, ?_⟩
  · have kept := bc.kept
    rw [ab.kept] at kept
    exact kept
  · obtain same | ⟨from_, ended⟩ := bc.mode
    · rw [same]
      exact ab.mode
    · obtain same | ⟨-, wasEnded⟩ := ab.mode
      · exact .inr ⟨same ▸ from_, ended⟩
      · rw [wasEnded] at from_
        contradiction

/-- R93: no station but Release touches the Pitch Clock beyond its mark. -/
theorem State.actAt_clock {st : Station} (other : st ≠ .release) (clamp n : Nat) :
    (s.actAt st clamp n).clock = s.clock := by
  unfold State.actAt
  split
  · rfl
  · cases st with
    | infeed | mill => rfl
    | spineGlue => exact State.spineGlueCheck_clock _ _ _
    | sideGlue => exact State.sideGlueCheck_clock _ _ _
    | cover => exact State.coverDecision_clock _ _ _
    | nip => exact State.nipEvent_clock _ _ _
    | release => exact absurd rfl other

theorem State.emptyClamp_fires (s : State) (clamp : Nat) : s.clock.Fires (s.emptyClamp clamp).clock
    ∧ (s.emptyClamp clamp).clock.fired = s.clock.fired := by
  unfold State.emptyClamp
  dsimp only
  split
  next ends => exact ⟨⟨rfl, .inr ⟨ends.1, rfl⟩⟩, rfl⟩
  next => exact ⟨.refl _, rfl⟩

theorem State.retireRejected_clock (s : State) (n : Nat) (place : Where) (cause : RejectCause) :
    (s.retireRejected n place cause).clock = s.clock := (s.retireRejected_frame n place cause).2.1

theorem State.releaseEvent_fires (s : State) (b : Book) (clamp : Nat) : s.clock.Fires (s.releaseEvent b clamp).clock
    ∧ (s.releaseEvent b clamp).clock.fired = s.clock.fired := by
  unfold State.releaseEvent
  dsimp only
  split
  · exact ((s.beginFixed Channel.opening clamp).joinDelivery b).emptyClamp_fires clamp
  next cause _ =>
    have rejected := (((s.beginFixed Channel.opening clamp).beginFixed Channel.reject clamp).retireRejected b.serial
      .release cause).emptyClamp_fires clamp
    rwa [State.retireRejected_clock] at rejected

theorem State.actAt_fires (s : State) (st : Station) (clamp n : Nat) : s.clock.Fires (s.actAt st clamp n).clock
    ∧ (s.actAt st clamp n).clock.fired = s.clock.fired := by
  by_cases release : st = .release
  · subst release
    unfold State.actAt
    split
    · exact ⟨.refl _, rfl⟩
    · exact s.releaseEvent_fires _ clamp
  · rw [State.actAt_clock release]
    exact ⟨.refl _, rfl⟩

/-- R92 to R94: a station event does nothing, or acts once the missed stations have been taken. -/
theorem State.workEvent_cases (s : State) (st : Station) (clamp : Nat) : s.workEvent st clamp = s
    ∨ ∃ t n, t.clock = s.clock ∧ s.workEvent st clamp = State.actAt st clamp n t := by
  unfold State.workEvent
  split
  · exact .inl rfl
  · split
    · exact .inl rfl
    · split
      next n _ _ b _ _ => exact .inr ⟨_, n, (s.missedStations_frame n (missedStations b.progress st)).1, rfl⟩
      next => exact .inl rfl

theorem State.workEvent_fires (s : State) (st : Station) (clamp : Nat) : s.clock.Fires (s.workEvent st clamp).clock
    ∧ (s.workEvent st clamp).clock.fired = s.clock.fired := by
  obtain same | ⟨t, n, clock, acts⟩ := s.workEvent_cases st clamp
  · rw [same]
    exact ⟨.refl _, rfl⟩
  · rw [acts, ← clock]
    exact t.actAt_fires st clamp n

theorem State.workEvent_clock {st : Station} (other : st ≠ .release) (clamp : Nat) :
    (s.workEvent st clamp).clock = s.clock := by
  obtain same | ⟨t, n, clock, acts⟩ := s.workEvent_cases st clamp
  · rw [same]
  · rw [acts, State.actAt_clock other, clock]

/-- R9: a station that fires sets its own mark. -/
theorem State.fireStation_fires (s : State) (st : Station) : s.clock.Fires (s.fireStation st).clock
    ∧ (s.fireStation st).clock.fired = s.clock.fired.set st.index true := by
  have marks : s.clock.Fires { s.clock with fired := s.clock.fired.set st.index true } := ⟨rfl, .inl rfl⟩
  by_cases infeed : st = .infeed
  · subst infeed
    rw [State.fireStation_infeed, State.infeedEvent_clock]
    exact ⟨marks, rfl⟩
  · rw [State.fireStation_work infeed]
    obtain ⟨fires, fired⟩ := State.workEvent_fires
      ({ s with clock := { s.clock with fired := s.clock.fired.set st.index true } }) st (s.clock.clampAt st)
    exact ⟨marks.trans fires, fired⟩

/-- R22: Release alone can end a RUNOUT. -/
theorem State.fireStation_mode {st : Station} (other : st ≠ .release) :
    (s.fireStation st).clock.mode = s.clock.mode := by
  by_cases infeed : st = .infeed
  · subst infeed
    rw [State.fireStation_infeed, State.infeedEvent_clock]
  · rw [State.fireStation_work infeed, State.workEvent_clock other]

/-! ### Several stations due at one count (R9) -/

/-- R9: the stations that are due. -/
def State.stationDue (s : State) (st : Station) : Bool :=
  s.clock.stations[st.index].phase ≤ s.clock.phase && !s.clock.fired[st.index]

theorem State.fireDue_eq (s : State) : s.fireDue =
    (Station.all.filter s.stationDue).foldl (fun t m => t.fireStation m) s := rfl

theorem State.fireIfDue_firing (fires : s.clock.mode.stationsFire = true) (st : Station) :
    s.fireIfDue st = if s.stationDue st = true then s.fireStation st else s := by
  unfold State.fireIfDue State.stationDue
  rw [fires]
  rfl

theorem State.fireIfDue_idle (idle : s.clock.mode.stationsFire = false) (st : Station) : s.fireIfDue st = s := by
  unfold State.fireIfDue
  rw [idle]
  rfl

theorem State.stationRule_idle (idle : s.clock.mode.stationsFire = false) : s.stationRule = s := by
  simp only [State.stationRule, Station.all, List.foldl_cons, List.foldl_nil, State.fireIfDue_idle idle]

theorem Station.index_inj {a b : Station} (h : a.index = b.index) : a = b := by
  revert h
  cases a <;> cases b <;> decide

/-- R9: a station that fires leaves it open for each other station whether it is due. -/
theorem State.stationDue_fireStation {st m : Station} (other : st ≠ m) :
    (s.fireStation st).stationDue m = s.stationDue m := by
  obtain ⟨fires, fired⟩ := s.fireStation_fires st
  have places : (s.fireStation st).clock.stations = s.clock.stations := by rw [fires.kept]
  have phase : (s.fireStation st).clock.phase = s.clock.phase := by rw [fires.kept]
  have index : (st.index : Nat) ≠ m.index := fun h => other (Station.index_inj (Fin.ext h))
  unfold State.stationDue
  rw [places, phase, fired, Fin.getElem_fin, Fin.getElem_fin, Vector.getElem_set_ne _ _ index]
  rfl

/-- R9: stations taken one by one, each if it is due when its turn comes, are the stations due at the beginning. Only
Release ends a RUNOUT, and nothing comes after it. -/
theorem State.fireAll_eq (l : List Station) (order : l.Pairwise fun a b => a ≠ b ∧ a ≠ .release)
    (fires : s.clock.mode.stationsFire = true) :
    l.foldl State.fireIfDue s = (l.filter s.stationDue).foldl (fun t m => t.fireStation m) s := by
  induction l generalizing s with
  | nil => rfl
  | cons st rest ih =>
    obtain ⟨first, order⟩ := List.pairwise_cons.1 order
    rw [List.foldl_cons, State.fireIfDue_firing fires, List.filter_cons]
    split
    next due =>
      rw [List.foldl_cons]
      have same : rest.filter (s.fireStation st).stationDue = rest.filter s.stationDue :=
        List.filter_congr fun m mem => State.stationDue_fireStation (first m mem).1
      cases rest with
      | nil => rfl
      | cons m rest =>
        rw [← same]
        refine ih order ?_
        rw [State.fireStation_mode (first m (List.mem_cons_self ..)).2]
        exact fires
    next => exact ih order fires

theorem State.fireAll_fires (l : List Station) (s : State) :
    s.clock.Fires (l.foldl (fun t m => t.fireStation m) s).clock := by
  induction l generalizing s with
  | nil => exact .refl _
  | cons st rest ih => exact (s.fireStation_fires st).1.trans (ih _)

/-- R9: the station event rule in a mode in which stations fire. -/
theorem State.stationRule_firing (fires : s.clock.mode.stationsFire = true) : s.stationRule = s.fireDue :=
  (State.fireAll_eq Station.all (by decide) fires).trans s.fireDue_eq.symm

theorem State.fireDue_fires (s : State) : s.clock.Fires s.fireDue.clock := by
  rw [State.fireDue_eq]
  exact State.fireAll_fires _ s

/-! ### Forward counts by mode -/

theorem State.checkPitches_within (h : s.clock.mode.stationsFire = true →
    s.clock.pitchesSinceHome ≤ s.clock.geometry.clampCount + 1) : s.checkPitches = s := by
  refine if_neg fun both => ?_
  obtain ⟨fires, past⟩ := Bool.and_eq_true_iff.1 both
  exact absurd (of_decide_eq_true past) (Nat.not_lt.2 (h fires))

theorem State.checkPitches_past (fires : s.clock.mode.stationsFire = true)
    (past : s.clock.geometry.clampCount + 1 < s.clock.pitchesSinceHome) :
    s.checkPitches = s.enterHalted .homeMissing := by
  rw [State.checkPitches, fires, Bool.true_and, if_pos (decide_eq_true past)]
  exact State.takeHaltCause_of_started (LineMode.started_of_stationsFire fires)

theorem State.checkHomingTravel_within (h : s.clock.mode = .homing →
    s.clock.homingTravel ≤ (s.clock.geometry.clampCount + 2) * s.clock.geometry.pitchCounts) :
    s.checkHomingTravel = s :=
  if_neg fun both => absurd both.2 (Nat.not_lt.2 (h both.1))

theorem State.checkHomingTravel_past (mode : s.clock.mode = .homing)
    (past : (s.clock.geometry.clampCount + 2) * s.clock.geometry.pitchCounts < s.clock.homingTravel) :
    s.checkHomingTravel = s.enterHalted .homeMissing :=
  (if_pos ⟨mode, past⟩).trans (State.takeHaltCause_of_started (by rw [mode]; rfl))

theorem State.checkStandstill_within (h : ∀ ret, s.clock.mode = .hold .standstill ret → s.clock.standstillTravel < 16) :
    s.checkStandstill = s := by
  unfold State.checkStandstill
  split
  next ret mode => exact if_neg (Nat.not_le.2 (h ret mode))
  all_goals rfl

theorem State.checkStandstill_past {ret : ReturnMode} (mode : s.clock.mode = .hold .standstill ret)
    (past : 16 ≤ s.clock.standstillTravel) : s.checkStandstill = s.returnFromHold ret := by
  unfold State.checkStandstill
  rw [mode]
  exact if_pos past

/-- R12 and R14: outside HOMING and a STANDSTILL hold no travel is counted. -/
theorem State.travelled_other (homing : s.clock.mode ≠ .homing)
    (standstill : ∀ ret, s.clock.mode ≠ .hold .standstill ret) :
    s.travelled = s := by
  have travel : s.clock.countTravel = s.clock := by
    unfold PitchClock.countTravel
    split
    next mode => exact absurd mode homing
    next ret mode => exact absurd mode (standstill ret)
    all_goals rfl
  rw [State.travelled, travel, State.checkHomingTravel_within fun mode => absurd mode homing,
    State.checkStandstill_within fun ret mode => absurd mode (standstill ret)]

theorem PitchClock.countTravel_homing {c : PitchClock} (mode : c.mode = .homing) :
    c.countTravel = { c with homingTravel := c.homingTravel + 1 } := by
  simp only [PitchClock.countTravel, mode]

theorem PitchClock.countTravel_standstill {c : PitchClock} {ret : ReturnMode} (mode : c.mode = .hold .standstill ret) :
    c.countTravel = { c with standstillTravel := c.standstillTravel + 1 } := by
  simp only [PitchClock.countTravel, mode]

theorem PitchClock.countTravel_eq (c : PitchClock) : c.countTravel = { c with
    homingTravel := if c.mode = .homing then c.homingTravel + 1 else c.homingTravel
    standstillTravel := match c.mode with
      | .hold .standstill _ => c.standstillTravel + 1
      | _ => c.standstillTravel } := by
  obtain ⟨mode⟩ := c
  cases mode with
  | hold kind ret => cases kind <;> rfl
  | setup | homing | run | runout | halted => rfl

/-- R12: HOMING is no hold, and a line halted there returns to nothing. -/
theorem State.checkStandstill_homing (mode : s.clock.mode = .homing) :
    s.checkHomingTravel.checkStandstill = s.checkHomingTravel := by
  by_cases past : (s.clock.geometry.clampCount + 2) * s.clock.geometry.pitchCounts < s.clock.homingTravel
  · rw [State.checkHomingTravel_past mode past]
    exact State.checkStandstill_of_halted rfl
  · rw [State.checkHomingTravel_within fun _ => Nat.not_lt.1 past]
    exact State.checkStandstill_within fun ret hold => absurd (mode.symm.trans hold) (by simp)

/-- R14: in HOMING an advance is counted. -/
theorem State.travelled_homing (mode : s.clock.mode = .homing) : s.travelled =
    ({ s with clock := { s.clock with homingTravel := s.clock.homingTravel + 1 } } : State).checkHomingTravel := by
  rw [State.travelled, PitchClock.countTravel_homing mode]
  exact State.checkStandstill_homing mode

/-- R12: in a STANDSTILL hold an advance is counted. -/
theorem State.travelled_standstill {ret : ReturnMode} (mode : s.clock.mode = .hold .standstill ret) : s.travelled =
    ({ s with clock := { s.clock with
      standstillTravel := s.clock.standstillTravel + 1 } } : State).checkStandstill := by
  rw [State.travelled, PitchClock.countTravel_standstill mode]
  exact congrArg State.checkStandstill
    (State.checkHomingTravel_within fun homing => absurd (mode.symm.trans homing) (by simp))

section ForwardCount

variable (running : s.stoppage.held = false) (lag : s.clock.lag = 0)
include running lag

/-- R1: where no station fires, the count is the mark and its travel. -/
theorem execForwardCount_idle (idle : s.clock.mode.stationsFire = false) (other : s.clock.mode ≠ .halted) :
    exec .forwardCount s = .next s.marked.travelled := by
  have idle : s.marked.clock.mode.stationsFire = false := by rwa [State.marked_mode]
  rw [execForwardCount_advance running other lag, State.checkPitches_within fun fires => by simp [idle] at fires,
    State.stationRule_idle idle]

/-- R2 and R9: where stations fire, up to N + 1 pitches since home. -/
theorem execForwardCount_firing (fires : s.clock.mode.stationsFire = true)
    (within : s.marked.clock.pitchesSinceHome ≤ s.clock.geometry.clampCount + 1) :
    exec .forwardCount s = .next s.marked.fireDue.travelled := by
  have other : s.clock.mode ≠ .halted := by
    intro mode
    simp [mode, LineMode.stationsFire, LineMode.name] at fires
  have fires : s.marked.clock.mode.stationsFire = true := by rwa [State.marked_mode]
  have within : s.marked.clock.pitchesSinceHome ≤ s.marked.clock.geometry.clampCount + 1 := by
    rwa [s.marked_kept.2.1]
  rw [execForwardCount_advance running other lag, State.checkPitches_within fun _ => within,
    State.stationRule_firing fires]

/-- R18: N + 2 pitches since home halt the line before a station fires. -/
theorem execForwardCount_homeMissing (fires : s.clock.mode.stationsFire = true)
    (past : s.clock.geometry.clampCount + 1 < s.marked.clock.pitchesSinceHome) :
    exec .forwardCount s = .next (s.marked.enterHalted .homeMissing) := by
  have other : s.clock.mode ≠ .halted := by
    intro mode
    simp [mode, LineMode.stationsFire, LineMode.name] at fires
  have fires : s.marked.clock.mode.stationsFire = true := by rwa [State.marked_mode]
  have past : s.marked.clock.geometry.clampCount + 1 < s.marked.clock.pitchesSinceHome := by
    rwa [s.marked_kept.2.1]
  rw [execForwardCount_advance running other lag, State.checkPitches_past fires past,
    State.stationRule_idle (s := s.marked.enterHalted .homeMissing) rfl,
    State.travelled_other (s := s.marked.enterHalted .homeMissing) (by simp [State.enterHalted])
      (by simp [State.enterHalted])]

theorem execForwardCount_setup (mode : s.clock.mode = .setup) : exec .forwardCount s = .next s.marked := by
  have marked := s.marked_mode.trans mode
  rw [execForwardCount_idle running lag (by rw [mode]; rfl) (by simp [mode]),
    State.travelled_other (by simp [marked]) (by simp [marked])]

theorem execForwardCount_homing (mode : s.clock.mode = .homing) : exec .forwardCount s =
    .next ({ s.marked with clock := { s.marked.clock with
      homingTravel := s.clock.homingTravel + 1 } } : State).checkHomingTravel := by
  rw [execForwardCount_idle running lag (by rw [mode]; rfl) (by simp [mode]),
    State.travelled_homing (s.marked_mode.trans mode), s.marked_kept.2.2.1]

/-- R9: a count in RUN, in RUNOUT and in a COMMANDED hold. -/
theorem execForwardCount_working (within : s.marked.clock.pitchesSinceHome ≤ s.clock.geometry.clampCount + 1)
    (mode : s.clock.mode = .run ∨ s.clock.mode = .runout ∨ ∃ ret, s.clock.mode = .hold .commanded ret) :
    exec .forwardCount s = .next s.marked.fireDue := by
  have fires : s.clock.mode.stationsFire = true := by
    obtain mode | mode | ⟨ret, mode⟩ := mode <;> rw [mode] <;> rfl
  have after := s.marked.fireDue_fires.mode
  rw [State.marked_mode] at after
  rw [execForwardCount_firing running lag fires within]
  obtain same | ⟨-, ended⟩ := after
  · rw [State.travelled_other]
    · rw [same]
      obtain mode | mode | ⟨ret, mode⟩ := mode <;> simp [mode]
    · rw [same]
      obtain mode | mode | ⟨ret, mode⟩ := mode <;> simp [mode]
  · rw [State.travelled_other (by simp [ended]) (by simp [ended])]

/-- R12: a count in a STANDSTILL hold. -/
theorem execForwardCount_standstill {ret : ReturnMode} (mode : s.clock.mode = .hold .standstill ret)
    (within : s.marked.clock.pitchesSinceHome ≤ s.clock.geometry.clampCount + 1) :
    exec .forwardCount s = .next ({ s.marked.fireDue with clock := { s.marked.fireDue.clock with
      standstillTravel := s.clock.standstillTravel + 1 } } : State).checkStandstill := by
  have fires := s.marked.fireDue_fires
  have after : s.marked.fireDue.clock.mode = .hold .standstill ret := by
    obtain same | ⟨runout, -⟩ := fires.mode
    · rw [same, State.marked_mode, mode]
    · rw [State.marked_mode, mode] at runout
      contradiction
  have travel : s.marked.fireDue.clock.standstillTravel = s.clock.standstillTravel := by
    rw [fires.kept]
    exact s.marked_kept.2.2.2
  rw [execForwardCount_firing running lag (by rw [mode]; rfl) within, State.travelled_standstill after, travel]

end ForwardCount

/-! ### O33, O35, O32 and O34 -/

/-- The stations due, where one station or none is. -/
theorem State.fireDue_of_due {st : Option Station} (only : s.onlyStationDue s.clock.phase st) :
    s.fireDue = st.toList.foldl (fun t m => t.fireStation m) s := by
  have due (m : Station) : s.stationDue m = decide (some m = st) := by
    rw [Bool.eq_iff_iff, decide_eq_true_iff, only m]
    simp [State.stationDue]
  have stations : Station.all.filter s.stationDue = st.toList := by
    rw [List.filter_congr fun m _ => due m]
    cases st with
    | none => rfl
    | some st => cases st <;> rfl
  rw [State.fireDue_eq, stations]

/-- Settles O33: by the mode, and by the stations due. -/
theorem stationsFireAndPitchesWrap : Obligations.StationsFireAndPitchesWrap := by
  unfold Obligations.StationsFireAndPitchesWrap
  refine ⟨fun s running lag => ?_, fun s st => ⟨State.fireDue_of_due, State.fireDue_of_due, (s.fireStation_fires st).2,
    fun count => ?_, rfl⟩⟩
  · refine ⟨execForwardCount_setup running lag, fun mode below => ?_,
      fun within => ⟨execForwardCount_working running lag within, fun ret mode below => ?_⟩,
      execForwardCount_homeMissing running lag⟩
    · rw [execForwardCount_homing running lag mode, State.checkHomingTravel_within fun _ => ?_]
      dsimp only
      rw [s.marked_kept.2.1]
      exact below
    · rw [execForwardCount_standstill running lag mode within, State.checkStandstill_within fun _ _ => below]
  · exact Int.toNat_of_nonneg (Int.emod_nonneg _ (by omega))

/-- Settles O35: each limit at and below it, and at a count. -/
theorem travelLimitsAct : Obligations.TravelLimitsAct := by
  unfold Obligations.TravelLimitsAct
  intro s running g limit
  refine ⟨fun mode past => whenRunning_answer running (State.checkHomingTravel_past mode past),
    fun h => whenRunning_answer running (State.checkHomingTravel_within fun mode =>
      h.resolve_left (not_not_intro mode)),
    fun fires past => whenRunning_answer running (State.checkPitches_past fires past),
    fun h => whenRunning_answer running (State.checkPitches_within fun fires =>
      h.resolve_left (by rw [fires]; exact Bool.true_eq_false.mp)),
    fun ret mode past => whenRunning_answer running (State.checkStandstill_past mode past),
    fun h => whenRunning_answer running (State.checkStandstill_within fun ret mode =>
      h.resolve_left fun none_ => none_ ret mode),
    fun mode lag at_ => ?_, fun ret mode lag within at_ => ?_, rfl,
    fun occupied => State.returnFromHold_runout_occupied occupied,
    fun empty => State.returnFromHold_runout_empty empty⟩
  · rw [execForwardCount_homing running lag mode, at_]
    refine congrArg Host.Outcome.next (State.checkHomingTravel_past (s.marked_mode.trans mode) ?_)
    dsimp only
    rw [s.marked_kept.2.1]
    exact Nat.lt_succ_self _
  · have after : s.marked.fireDue.clock.mode = .hold .standstill ret := by
      obtain same | ⟨runout, -⟩ := s.marked.fireDue_fires.mode
      · rw [same, State.marked_mode, mode]
      · rw [State.marked_mode, mode] at runout
        contradiction
    rw [execForwardCount_standstill running lag mode within, at_]
    exact congrArg Host.Outcome.next (State.checkStandstill_past after le_rfl)

/-- R1: the mark within a pitch. -/
theorem State.marked_within (within : s.clock.phase + 1 < s.clock.geometry.pitchCounts) : s.marked = { s with
    clock := { s.clock with phase := s.clock.phase + 1, standstillTimer := s.timerAfterCount }
    cams := s.cams.map CamChannel.advance } := by
  rw [State.marked, if_pos within]

/-- R137: the window of a channel after an advance. -/
theorem CamChannel.advance_eq : CamChannel.advance = fun c => { c with window := match c.window with
    | none => none
    | some w => if w.travel + 1 < w.start + w.length then some { w with travel := w.travel + 1 } else none } := by
  funext c
  unfold CamChannel.advance
  cases c.window with
  | none => rfl
  | some w =>
    by_cases goes : w.travel + 1 < w.start + w.length
    · simp [goes, Nat.not_le.2 goes]
    · simp [goes, Nat.not_lt.1 goes]

/-- R1 and R137: a count at which no station fires and no limit is reached. -/
theorem execForwardCount_plain (running : s.stoppage.held = false) (other : s.clock.mode ≠ .halted)
    (lag : s.clock.lag = 0) (phase : s.clock.phase + 1 < s.clock.geometry.pitchCounts)
    (since : s.clock.pitchesSinceHome ≤ s.clock.geometry.clampCount + 1)
    (quiet : s.clock.mode.stationsFire = true → s.onlyStationDue (s.clock.phase + 1) none)
    (homing : s.clock.mode = .homing →
      s.clock.homingTravel < (s.clock.geometry.clampCount + 2) * s.clock.geometry.pitchCounts)
    (standstill : ∀ ret, s.clock.mode = .hold .standstill ret → s.clock.standstillTravel + 1 < 16) :
    exec .forwardCount s = .next ({ s.marked with clock := s.marked.clock.countTravel } : State) := by
  have marked := s.marked_mode
  have within : s.marked.clock.pitchesSinceHome ≤ s.clock.geometry.clampCount + 1 := by
    rw [State.marked_within phase]
    exact since
  have fired (fires : s.clock.mode.stationsFire = true) : s.marked.fireDue = s.marked := by
    refine State.fireDue_of_due (st := none) ?_
    rw [State.marked_within phase]
    exact quiet fires
  cases mode : s.clock.mode with
  | halted => exact absurd mode other
  | setup =>
    rw [execForwardCount_setup running lag mode]
    simp only [PitchClock.countTravel, marked, mode]
  | run | runout =>
    rw [execForwardCount_working running lag within (by simp [mode]), fired (by rw [mode]; rfl)]
    simp only [PitchClock.countTravel, marked, mode]
  | homing =>
    rw [execForwardCount_homing running lag mode, PitchClock.countTravel_homing (marked.trans mode),
      s.marked_kept.2.2.1]
    refine congrArg Host.Outcome.next (State.checkHomingTravel_within fun _ => ?_)
    dsimp only
    rw [s.marked_kept.2.1]
    exact homing mode
  | hold kind ret =>
    cases kind with
    | commanded =>
      rw [execForwardCount_working running lag within (by simp [mode]), fired (by rw [mode]; rfl)]
      simp only [PitchClock.countTravel, marked, mode]
    | standstill =>
      rw [execForwardCount_standstill running lag mode within, fired (by rw [mode]; rfl),
        PitchClock.countTravel_standstill (marked.trans mode), s.marked_kept.2.2.2]
      exact congrArg Host.Outcome.next (State.checkStandstill_within fun _ _ => standstill ret mode)

/-- Settles O32: by the mode, the lag and the mark. -/
theorem forwardCountMovesTheMark : Obligations.ForwardCountMovesTheMark := by
  unfold Obligations.ForwardCountMovesTheMark
  refine ⟨fun s running => ⟨fun mode => whenRunning_answer running (if_pos mode), fun mode lag => ?_,
    fun mode lag phase since quiet homing standstill => ?_⟩, fun a b a' b' => ?_⟩
  · refine whenRunning_answer running ((if_neg mode).trans ((if_pos lag).trans ?_))
    rw [State.restartStandstill_eq]
  · have counted := execForwardCount_plain running mode lag phase since quiet homing standstill
    rw [State.marked_within phase, CamChannel.advance_eq, PitchClock.countTravel_eq] at counted
    exact counted
  · cases a <;> cases b <;> cases a' <;> cases b' <;> decide

/-- Settles O34: by the lag against the tolerance. -/
theorem reverseCountRaisesTheLag : Obligations.ReverseCountRaisesTheLag := by
  unfold Obligations.ReverseCountRaisesTheLag
  intro s running counted tol free
  have started_mode (started : s.clock.mode.started = true) : s.clock.mode ≠ .halted ∧ s.clock.mode ≠ .setup := by
    constructor <;> rintro mode <;> rw [mode] at started <;> contradiction
  have setup_mode (mode : s.clock.mode = .setup) : s.clock.mode ≠ .halted := by simp [mode]
  have restarted := s.restartStandstill_eq
  have at_ (lag : s.clock.lag = tol) : s.restartStandstill = counted tol := by
    rw [restarted]
    simp only [counted, ← lag]
  have above (h : tol < s.clock.lag) : ¬ s.clock.lag < tol ∧ s.clock.lag ≠ tol := by omega
  have freed : ({ s.restartStandstill with
      clock := { s.restartStandstill.clock with lag := free } } : State) = counted free := by
    rw [restarted]
  refine ⟨fun mode => whenRunning_answer running (if_pos mode), fun mode below => whenRunning_answer running ?_,
    fun mode lag => whenRunning_answer running ?_, fun started lag => whenRunning_answer running ?_,
    fun mode past => whenRunning_answer running ?_, fun started past => whenRunning_answer running ?_⟩
  · refine (if_neg mode).trans ((if_pos below).trans ?_)
    rw [restarted]
  · refine (if_neg (setup_mode mode)).trans ((if_neg lag.not_lt).trans ?_)
    dsimp only
    rw [if_pos mode, if_pos lag, at_ lag]
  · refine (if_neg (started_mode started).1).trans ((if_neg lag.not_lt).trans ?_)
    dsimp only
    rw [if_neg (started_mode started).2, if_pos lag, at_ lag]
    exact State.takeHaltCause_of_started (s := counted tol) started
  · refine (if_neg (setup_mode mode)).trans ((if_neg (above past).1).trans ?_)
    dsimp only
    rw [if_pos mode, if_neg (above past).2]
    exact freed
  · refine (if_neg (started_mode started).1).trans ((if_neg (above past).1).trans ?_)
    dsimp only
    rw [if_neg (started_mode started).2, if_neg (above past).2]
    exact (congrArg (State.takeHaltCause .reverse) freed).trans
      (State.takeHaltCause_of_started (s := counted free) started)

end Sys2Proof.Machine
end

section
/-!
PROOF. START (R13, R14), the standstill hold and its cut glue windows (R11, R131), halting (R24, R180) and the outputs
(R86, R140, R188).
-/

namespace Sys2Proof.Machine

variable {s : State} {p : PortId}

/-! ### Cut glue windows (R131, R132) -/

/-- R131: a channel after one window has been cut. -/
theorem State.cutGlueWindow_cam (s : State) (ch c : Fin 8) : (s.cutGlueWindow ch).cams[c]
    = if c = ch then { s.cams[c] with window := none } else s.cams[c] := by
  unfold State.cutGlueWindow
  cases window : s.cams[ch].window with
  | none =>
    dsimp only
    split
    next same => rw [same, ← window]
    next => rfl
  | some w =>
    have kept : (s.setCauseInClamp w.clamp .glueInterrupted).cams = s.cams := by simp
    dsimp only
    rw [Fin.getElem_fin, Vector.getElem_set, kept]
    by_cases same : c = ch
    · rw [if_pos (congrArg Fin.val same.symm), if_pos same, same]
    · rw [if_neg (fun h => same (Fin.ext h.symm)), if_neg same]
      rfl

theorem State.cutGlueWindows_cam (s : State) (c : Fin 8) : s.cutGlueWindows.cams[c]
    = if c = 2 ∨ c = 3 then { s.cams[c] with window := none } else s.cams[c] := by
  rw [State.cutGlueWindows, State.cutGlueWindow_cam, State.cutGlueWindow_cam]
  by_cases side : c = Channel.sideGlue
  · subst side
    rfl
  · by_cases spine : c = Channel.spineGlue
    · subst spine
      rfl
    · rw [if_neg side, if_neg spine]
      exact (if_neg (not_or.2 ⟨spine, side⟩)).symm

/-- R132: the book of a cut window's clamp takes its cause in its slot, and nothing else of the Book Table changes. -/
theorem State.cutGlueWindow_books (s : State) (ch : Fin 8) :
    (s.cutGlueWindow ch).books = { s.books with slots := (s.cutGlueWindow ch).books.slots } := by
  unfold State.cutGlueWindow State.setCauseInClamp
  split
  · rfl
  · dsimp only
    split <;> rfl

theorem State.cutGlueWindows_books (s : State) :
    s.cutGlueWindows.books = { s.books with slots := s.cutGlueWindows.books.slots } := by
  rw [State.cutGlueWindows, State.cutGlueWindow_books, State.cutGlueWindow_books]

theorem State.cutGlueWindow_none {c : Fin 8} (window : s.cams[c].window = none) : s.cutGlueWindow c = s := by
  simp only [State.cutGlueWindow, window]

theorem State.cutGlueWindow_some {c : Fin 8} {w : CamWindow} (window : s.cams[c].window = some w) :
    s.cutGlueWindow c = { s.setCauseInClamp w.clamp .glueInterrupted with
      cams := s.cams.set c { s.cams[c] with window := none } } := by
  have cams : (s.setCauseInClamp w.clamp .glueInterrupted).cams = s.cams := by simp
  simp only [State.cutGlueWindow, window]
  rw [cams]

theorem State.setCauseInClamp_of_book {clamp n : Nat} (cause : RejectCause) (book : s.carousel.bookIn clamp = some n) :
    s.setCauseInClamp clamp cause = s.setCause n cause := by
  simp only [State.setCauseInClamp, book]

theorem State.setCauseInClamp_of_empty {clamp : Nat} (cause : RejectCause) (empty : s.carousel.bookIn clamp = none) :
    s.setCauseInClamp clamp cause = s := by
  simp only [State.setCauseInClamp, empty]

/-! ### The standstill hold (R11) -/

theorem execStandstillExpiry_due {mode : LineMode} {ret : ReturnMode} {due : Nat} (running : s.stoppage.held = false)
    (timer : s.clock.standstillTimer = some due) (reached : due ≤ s.now) (at_ : s.clock.mode = mode)
    (from_ : (mode = .run ∧ ret = .run) ∨ (mode = .runout ∧ ret = .runout)) :
    exec .standstillExpiry s = .next (s.enterHold .standstill ret) := by
  refine whenRunning_answer running ((if_pos (isDue_iff.2 ⟨due, timer, reached⟩)).trans ?_)
  obtain ⟨rfl, rfl⟩ | ⟨rfl, rfl⟩ := from_ <;> simp only [at_]

theorem execStandstillExpiry_idle (running : s.stoppage.held = false)
    (h : s.clock.standstillTimer = none ∨ (∃ due, s.clock.standstillTimer = some due ∧ s.now < due)
      ∨ (s.clock.mode ≠ .run ∧ s.clock.mode ≠ .runout)) : exec .standstillExpiry s = .next s := by
  refine whenRunning_answer running ?_
  obtain ⟨timer⟩ | ⟨due, timer, early⟩ | ⟨notRun, notRunout⟩ := h
  · exact if_neg (by simp [‹s.clock.standstillTimer = none›])
  · exact if_neg (by simp [timer, early])
  · split
    · cases mode : s.clock.mode with
      | run => exact absurd mode notRun
      | runout => exact absurd mode notRunout
      | setup | homing | hold kind ret | halted => rfl
    · rfl

/-- Settles O36: the due expiry block by block, and the cut of a window by its clamp. -/
theorem standstillHoldsTheLine : Obligations.StandstillHoldsTheLine := by
  unfold Obligations.StandstillHoldsTheLine
  refine ⟨fun s due mode ret running timer reached at_ from_ => ?_,
    fun s running h => execStandstillExpiry_idle running h,
    fun c s => ⟨State.cutGlueWindow_none, fun w window => ⟨fun n book => ?_, fun empty => ?_⟩⟩, fun s => rfl⟩
  · refine ⟨_, execStandstillExpiry_due running timer reached at_ from_, ?_⟩
    obtain ⟨now, -, timers, setpoints, carousel, glue, delivery, lifting, -, ports, wires, arriving, pending⟩ :=
      s.cutGlueWindows_frame
    rw [State.enterHold_shown]
    refine ⟨now, rfl, s.cutGlueWindows_cam, rfl, rfl, s.cutGlueWindows_books, fun q => ?_, ?_, carousel, glue, delivery,
      lifting, setpoints, timers, pending, wires, arriving⟩
    · rw [State.raise_get]
      dsimp only
      rw [now, ports]
    · show _ = { s.stoppage with lampA := ⟨true, some (s.cutGlueWindows.now + 1000)⟩, lampB := ⟨false, none⟩ }
      rw [now]
      rfl
  · rw [State.cutGlueWindow_some window, State.setCauseInClamp_of_book _ book]
  · rw [State.cutGlueWindow_some window, State.setCauseInClamp_of_empty _ empty]

/-! ### Halting (R24, R180) -/

/-- R24: a cause that SETUP discards. -/
theorem State.takeHaltCause_setup {cause : HaltCause} (mode : s.clock.mode = .setup) (other : cause ≠ .supply) :
    s.takeHaltCause cause = s := by
  simp only [State.takeHaltCause, mode, if_neg other]

/-- A change of records that keeps their serials changes the book found. -/
theorem State.findBook_mapAll {t : State} {f : Book → Book} (serial : ∀ b, (f b).serial = b.serial)
    (slots : t.books.slots = s.books.slots.map fun slot => slot.map f) (n : Nat) :
    t.findBook n = (s.findBook n).map f := by
  rw [State.findBook_eq, State.findBook_eq, slots, Vector.toList_map]
  induction s.books.slots.toList with
  | nil => rfl
  | cons a l ih =>
    rw [List.map_cons, List.findSome?_cons, List.findSome?_cons, ih]
    cases a with
    | none => rfl
    | some b => by_cases hb : b.serial = n <;> simp [filter_slot, hb, serial]

/-- R180: the mark that halting leaves on a book. -/
def Book.halted (clampMap : List (Option Nat)) (b : Book) : Book :=
  if some b.serial ∈ clampMap then { b with suspect := true } else b

theorem Book.halted_serial (clampMap : List (Option Nat)) (b : Book) : (b.halted clampMap).serial = b.serial := by
  unfold Book.halted
  split <;> rfl

theorem Book.halted_eq (clampMap : List (Option Nat)) (b : Book) :
    b.halted clampMap = { b with suspect := if some b.serial ∈ clampMap then true else b.suspect } := by
  unfold Book.halted
  split <;> rfl

theorem State.enterHalted_findBook (s : State) (cause : HaltCause) (n : Nat) :
    (s.enterHalted cause).findBook n = (s.cutGlueWindows.findBook n).map (Book.halted s.carousel.clampMap) := by
  obtain ⟨-, -, -, -, carousel, -⟩ := s.cutGlueWindows_frame
  refine State.findBook_mapAll (Book.halted_serial _) ?_ n
  rw [← carousel]
  rfl

/-- R142: every window ends and every force is off. -/
theorem State.enterHalted_cams (s : State) (cause : HaltCause) :
    (s.enterHalted cause).cams = s.cams.map fun c => { c with window := none, forced := false } := by
  ext i h : 1
  have cut := s.cutGlueWindows_cam ⟨i, h⟩
  rw [Vector.getElem_map]
  show ((s.cutGlueWindows.endWindows.releaseForces).cams)[i] = _
  simp only [State.releaseForces, State.endWindows, Vector.getElem_map]
  rw [show s.cutGlueWindows.cams[i] = s.cutGlueWindows.cams[(⟨i, h⟩ : Fin 8)] from rfl, cut]
  split <;> rfl

/-- Settles O40: by the mode, and block by block. -/
theorem haltCausesByMode : Obligations.HaltCausesByMode := by
  unfold Obligations.HaltCausesByMode
  refine ⟨fun cause s => ⟨State.takeHaltCause_halted, State.takeHaltCause_setup, fun halts => ?_⟩, fun cause s => ?_⟩
  · obtain started | ⟨mode, rfl⟩ := halts
    · exact State.takeHaltCause_of_started started
    · exact State.takeHaltCause_supply (by simp [mode])
  · obtain ⟨now, clock, -, -, carousel, -, -, -, stoppage, ports, -⟩ := s.cutGlueWindows_frame
    have due : (s.enterHalted cause).due = s.cutGlueWindows.due := by simp [State.enterHalted]
    obtain ⟨now', timers', setpoints', glue', delivery', lifting', wires', arriving', pending'⟩ :=
      s.enterHalted_frame cause
    refine ⟨?_, ?_, s.enterHalted_cams cause, ?_, fun q => ?_, fun n b found => ?_, ?_, due, delivery', lifting', glue',
      setpoints', timers', now', wires', arriving', pending'⟩
    · rw [← clock]
      rfl
    · rw [← stoppage, ← now]
      rfl
    · rw [← carousel]
      rfl
    · rw [← now, ← ports]
      exact (State.raise_get _ .halt q).trans (congrArg _ (State.raise_get _ .mode q))
    · rw [State.enterHalted_findBook, found, Option.map_some, Book.halted_eq,
        (State.findBook_some found).1]
    · have marked : (s.enterHalted cause).books
          = { s.cutGlueWindows.books with slots := (s.enterHalted cause).books.slots } := by
        simp only [State.enterHalted, State.raise_frame, State.enterMode_frame]
        rfl
      rw [s.cutGlueWindows_books] at marked
      exact marked

/-! ### START (R13, R14) -/

theorem placesIncrease_iff (l : List StationPlace) : placesIncrease l = true ↔ ∀ (i : Nat) (h : i + 1 < l.length),
    l[i].offset < l[i + 1].offset ∨ (l[i].offset = l[i + 1].offset ∧ l[i].phase < l[i + 1].phase) := by
  induction l with
  | nil => simp [placesIncrease]
  | cons a rest ih =>
    cases rest with
    | nil => simp [placesIncrease]
    | cons b rest =>
      rw [placesIncrease, Bool.and_eq_true, ih]
      simp only [Bool.or_eq_true, Bool.and_eq_true, decide_eq_true_eq, beq_iff_eq]
      constructor
      · rintro ⟨first, later⟩ i h
        cases i with
        | zero => exact first
        | succ i => exact later i (Nat.lt_of_succ_lt_succ h)
      · exact fun all => ⟨all 0 (by simp), fun i h => all (i + 1) (Nat.succ_lt_succ h)⟩

theorem State.check_places : placesIncrease s.clock.stations.toList = true ↔ s.checkPasses 1 := by
  rw [placesIncrease_iff]
  simp only [Vector.length_toList, Vector.getElem_toList]
  exact ⟨fun all i => all i (by omega), fun all i h => all ⟨i, by omega⟩⟩

theorem State.check_phases :
    (s.clock.stations.toList.any fun p => s.clock.geometry.pitchCounts ≤ p.phase) = true ↔ ¬ s.checkPasses 4 := by
  rw [List.any_eq_true]
  simp only [State.checkPasses, decide_eq_true_eq, not_forall, Nat.not_lt]
  constructor
  · rintro ⟨place, mem, late⟩
    obtain ⟨i, h, rfl⟩ := List.mem_iff_getElem.1 mem
    exact ⟨⟨i, by simpa using h⟩, by simpa using late⟩
  · rintro ⟨i, late⟩
    exact ⟨s.clock.stations[i], Vector.mem_toList_iff.2 (Vector.getElem_mem _), late⟩

theorem State.check_windows : fixedWindowsFit s.clock.geometry.pitchCounts s.cams = true ↔ s.checkPasses 5 := by
  simp only [fixedWindowsFit, isGlueChannel, List.all_eq_true, List.mem_finRange, true_implies, Bool.or_eq_true,
    beq_iff_eq, decide_eq_true_eq]
  refine forall_congr' fun c => ⟨fun h spine side => h.resolve_left (not_or.2 ⟨spine, side⟩), fun h => ?_⟩
  by_cases glue : c = Channel.spineGlue ∨ c = Channel.sideGlue
  · exact .inl glue
  · exact .inr (h (not_or.1 glue).1 (not_or.1 glue).2)

theorem Pot.limitsFit_iff {q : Pot} : q.limitsFit = true ↔ (q.enabled = true → q.low + q.hysteresis < q.high) := by
  simp only [Pot.limitsFit, Bool.or_eq_true, Bool.not_eq_true', decide_eq_true_eq]
  cases q.enabled <;> simp

theorem State.check_pots : (s.glue.spine.limitsFit && s.glue.side.limitsFit) = true ↔ s.checkPasses 6 := by
  rw [Bool.and_eq_true, Pot.limitsFit_iff, Pot.limitsFit_iff]
  refine ⟨fun both id => ?_, fun all => ⟨all .spine, all .side⟩⟩
  cases id with
  | spine => exact both.1
  | side => exact both.2

theorem State.check_suspects : s.suspectClamped = true ↔ ¬ s.checkPasses 8 := by
  simp only [State.suspectClamped, State.checkPasses, List.any_eq_true, Option.any_eq_true, Option.bind_eq_some_iff,
    not_forall, Bool.not_eq_false]
  constructor
  · rintro ⟨entry, mem, b, ⟨n, rfl, found⟩, suspect⟩
    obtain ⟨clamp, h, at_⟩ := List.mem_iff_getElem.1 mem
    exact ⟨clamp, n, b, by rw [Carousel.bookIn, List.getElem?_eq_getElem h, at_]; rfl, found, suspect⟩
  · rintro ⟨clamp, n, b, book, found, suspect⟩
    exact ⟨some n, mem_of_join_some book, b, ⟨n, rfl, found⟩, suspect⟩

open Classical in
/-- R13: the checks in their order. -/
theorem State.startCheck_eq (s : State) : s.startCheck =
    if ¬ s.checkPasses 1 then some 1 else if ¬ s.checkPasses 2 then some 2 else if ¬ s.checkPasses 3 then some 3
    else if ¬ s.checkPasses 4 then some 4 else if ¬ s.checkPasses 5 then some 5 else if ¬ s.checkPasses 6 then some 6
    else if ¬ s.checkPasses 7 then some 7 else if ¬ s.checkPasses 8 then some 8 else none := by
  have not_iff {b : Bool} {check : Prop} (h : b = true ↔ check) : (!b) = true ↔ ¬ check := by
    rw [Bool.not_eq_true', ← Bool.not_eq_true, h]
  exact if_congr (not_iff State.check_places) rfl <| if_congr Nat.not_lt.symm rfl <| if_congr Nat.not_lt.symm rfl <|
    if_congr State.check_phases rfl <| if_congr (not_iff State.check_windows) rfl <|
    if_congr (not_iff State.check_pots) rfl <| if_congr Nat.not_le.symm rfl <|
    if_congr State.check_suspects rfl rfl

theorem State.startCheck_of_first {k : Nat} (lo : 1 ≤ k) (hi : k ≤ 8)
    (passes : ∀ j, 1 ≤ j → j < k → s.checkPasses j) (fails : ¬ s.checkPasses k) : s.startCheck = some k := by
  rw [State.startCheck_eq]
  interval_cases k <;> simp [passes, fails]

theorem State.startCheck_of_all (passes : ∀ j, 1 ≤ j → j ≤ 8 → s.checkPasses j) : s.startCheck = none := by
  rw [State.startCheck_eq]
  simp [passes]

/-- Settles O37: by the mode and the first check that fails. -/
theorem startChecksThenHomes : Obligations.StartChecksThenHomes := by
  unfold Obligations.StartChecksThenHomes
  intro p s running binder
  have right := Rights.binder_iff.2 binder
  refine ⟨fun mode => command_answer running right (if_neg mode), fun mode k lo hi passes fails => ?_,
    fun mode passes => ?_⟩
  · refine command_answer running right ((if_pos mode).trans ?_)
    simp only [State.startCheck_of_first lo hi passes fails]
    rfl
  · refine command_answer running right ((if_pos mode).trans ?_)
    simp only [State.startCheck_of_all passes]
    rfl

/-! ### Outputs (R52, R86, R140, R141, R188) -/

theorem State.infeedGate_iff (running : s.stoppage.held = false) : s.infeedGate = true ↔ s.clock.mode = .run
    ∧ s.occupancy < s.clock.geometry.capacity
    ∧ (s.glue.spine.state = .ready ∧ (s.glue.side.state = .ready ∨ s.glue.side.enabled = false))
    ∧ s.carousel.presence = false := by
  simp only [State.infeedGate, GlueSupervisor.ready, running, Bool.not_false, Bool.true_and, Bool.and_eq_true,
    Bool.or_eq_true, Bool.not_eq_true', beq_iff_eq, decide_eq_true_eq, and_assoc]

/-- R140: an output is high where its channel is active or ACTIVE LOW, and not both. -/
theorem State.camOutput_iff (running : s.stoppage.held = false) {c : Fin 8} {active : Prop}
    (h : s.cams[c].active s.clock.mode = true ↔ active) :
    s.camOutput c = true ↔ (active ↔ s.cams[c].activeLow = false) := by
  rw [← h, State.camOutput, running]
  cases s.cams[c].active s.clock.mode <;> cases s.cams[c].activeLow <;> decide

/-- R141: a channel in a mode in which stations fire. -/
theorem CamChannel.active_firing {c : CamChannel} {mode : LineMode} (fires : mode.stationsFire = true) :
    c.active mode = true ↔ ∃ w, c.window = some w ∧ w.start ≤ w.travel ∧ w.travel < w.start + w.length := by
  have window : c.active mode = c.window.any CamWindow.active := by
    obtain rfl | ⟨kind, ret, rfl⟩ | rfl := LineMode.stationsFire_iff.1 fires <;> rfl
  simp only [window, Option.any_eq_true, CamWindow.active, Bool.and_eq_true, decide_eq_true_eq]

theorem Lamp.toggle_due {l : Lamp} {now half due : Nat} (timer : l.toggleAt = some due) (reached : due ≤ now) :
    l.toggle now half = ⟨!l.on, some (due + half)⟩ := by
  rw [Lamp.toggle, if_pos (isDue_iff.2 ⟨due, timer, reached⟩), timer]
  rfl

theorem Lamp.toggle_idle {l : Lamp} {now half : Nat}
    (h : l.toggleAt = none ∨ ∃ due, l.toggleAt = some due ∧ now < due) : l.toggle now half = l :=
  if_neg (by rw [isDue_eq_false h]; exact Bool.false_ne_true)

theorem execLampFlashToggle_a (running : s.stoppage.held = false) : exec (.lampFlashToggle .a) s = .next { s with
    stoppage := { s.stoppage with
      lampA := s.stoppage.lampA.toggle s.now (lampPattern s.clock.mode.name .a).half } } :=
  whenRunning_answer running rfl

theorem execLampFlashToggle_b (running : s.stoppage.held = false) : exec (.lampFlashToggle .b) s = .next { s with
    stoppage := { s.stoppage with
      lampB := s.stoppage.lampB.toggle s.now (lampPattern s.clock.mode.name .b).half } } :=
  whenRunning_answer running rfl

/-- Settles O46: output by output. -/
theorem outputLevels : Obligations.OutputLevels := by
  unfold Obligations.OutputLevels
  refine ⟨fun s running => ⟨State.infeedGate_iff running, ?_⟩, fun c s running => ?_, fun s running => ?_⟩
  · rw [State.occupancy, Carousel.occupied, List.countP_eq_length_filter, LiftBuilder.bookCount, List.length_flatMap]
  · refine ⟨fun mode => State.camOutput_iff running ?_, fun mode => State.camOutput_iff running ?_,
      fun fires => State.camOutput_iff running (CamChannel.active_firing fires)⟩
    · rw [mode]
      rfl
    · obtain mode | mode := mode <;> rw [mode] <;> exact ⟨Bool.false_ne_true, False.elim⟩
  · intro half
    have patternA : (lampPattern s.clock.mode.name .a).half = half .a := by
      cases mode : s.clock.mode.name <;> simp only [half, mode] <;> rfl
    have patternB : (lampPattern s.clock.mode.name .b).half = half .b := by
      cases mode : s.clock.mode.name <;> simp only [half, mode] <;> rfl
    rw [execLampFlashToggle_a running, execLampFlashToggle_b running, patternA, patternB]
    refine ⟨fun due timer reached => ?_, fun due timer early => ?_, fun due timer reached => ?_,
      fun due timer early => ?_, fun timer => ?_, fun timer => ?_⟩
    · rw [Lamp.toggle_due timer reached]
    · rw [Lamp.toggle_idle (.inr ⟨due, timer, early⟩)]
    · rw [Lamp.toggle_due timer reached]
    · rw [Lamp.toggle_idle (.inr ⟨due, timer, early⟩)]
    · rw [Lamp.toggle_idle (.inl timer)]
    · rw [Lamp.toggle_idle (.inl timer)]

end Sys2Proof.Machine
end

section
/-!
PROOF. TAKE LIFT and CUT DONE (R169 to R173), what a configuration write answers (R195), and SET GEOMETRY, SET STATION
and SET SENSOR field by field (R6 to R8, R80).
-/

namespace Sys2Proof.Machine

variable {s : State} {p : PortId}

/-! ### TAKE LIFT and CUT DONE (R169 to R173) -/

/-- R170: the lift dispatched, with the list it stands in. -/
theorem State.dispatchLift_shown (s : State) (n : Nat) (books : List Nat) : s.dispatchLift n books =
    { books.foldl (fun u m => u.mapBook m fun b => { b with state := .cutting }) s with
      lifting := { s.lifting with lifts := s.lifting.lifts.map fun l =>
        if l.number = n then { l with
          state := .dispatched, overdue := false, trimTimer := some (s.now + s.timers.trimTimeout) }
        else l } } := by
  rw [State.dispatchLift_eq, State.mapLift, State.markCutting_lifting]
  rfl

section TakeLift

variable {n : Nat}

theorem State.takeLift_closed {c : Lift} (free : s.lifting.dispatched = none)
    (closed : s.lifting.oldestClosed = some c) :
    s.takeLift n = if c.number = n then (s.dispatchLift n c.books, ⟨.ok, n⟩)
      else if (s.lifting.lifts.map Lift.number).contains n = true then (s, ⟨.refusedOrder, n⟩)
      else (s, ⟨.refusedUnknown, n⟩) := by
  simp only [State.takeLift, free, closed]
  rfl

theorem State.takeLift_open {o : Lift} (free : s.lifting.dispatched = none) (closed : s.lifting.oldestClosed = none)
    (isOpen : s.lifting.openLift = some o) :
    s.takeLift n = if o.number = n then ((s.closeLift n).dispatchLift n o.books, ⟨.ok, n⟩)
      else (s, ⟨.refusedUnknown, n⟩) := by
  simp only [State.takeLift, free, closed, isOpen]
  rfl

theorem State.takeLift_none (free : s.lifting.dispatched = none) (closed : s.lifting.oldestClosed = none)
    (isOpen : s.lifting.openLift = none) : s.takeLift n = (s, ⟨.refusedUnknown, n⟩) := by
  simp only [State.takeLift, free, closed, isOpen]
  rfl

/-- R172: a lift's books retire without a change of the lift list. -/
theorem State.retireLift_lifting (fault : Bool) (books : List Nat) (s : State) :
    (s.retireLift fault books).lifting = s.lifting := by
  unfold State.retireLift
  induction books generalizing s with
  | nil => rfl
  | cons m books ih =>
    rw [List.foldl_cons, ih]
    split <;> simp

theorem State.cutDone_number {l : Lift} (outcome : Byte) (goes : s.lifting.dispatched = some l)
    (number : l.number = n) :
    (outcome.toNat = 0 → s.cutDone n outcome
      = (((s.retireLift false l.books).removeLift n).offerDelivery, ⟨.ok, n⟩))
    ∧ (outcome.toNat = 1 → s.cutDone n outcome
      = (((s.retireLift true l.books).removeLift n).offerDelivery, ⟨.ok, n⟩))
    ∧ (2 ≤ outcome.toNat → s.cutDone n outcome = (s, ⟨.refusedRange, n⟩)) := by
  unfold State.cutDone
  simp only [goes, number, ne_eq, not_true_eq_false, if_false]
  refine ⟨fun done => by rw [done]; rfl, fun fault => by rw [fault]; rfl, fun unnamed => ?_⟩
  split
  next done => omega
  next fault => omega
  next => rfl

theorem State.cutDone_other (outcome : Byte) (other : ∀ l, s.lifting.dispatched = some l → l.number ≠ n) :
    s.cutDone n outcome = (s, ⟨.refusedUnknown, n⟩) := by
  unfold State.cutDone
  split
  next => rfl
  next l goes => exact if_pos (other l goes)

end TakeLift

/-- Settles O52: by the first test that applies. -/
theorem theTrimmerTakesAndCutsLifts : Obligations.TheTrimmerTakesAndCutsLifts := by
  unfold Obligations.TheTrimmerTakesAndCutsLifts
  intro p lift outcome s running trim n take cut refused dispatched cutUp
  have right := Rights.trim_iff.2 trim
  have dispatches (u : State) (books : List Nat) : u.dispatchLift n books = dispatched u books :=
    u.dispatchLift_shown n books
  have numbers : (s.lifting.lifts.map Lift.number).contains n = true ↔ ∃ l ∈ s.lifting.lifts, l.number = n := by
    simp
  have cutsUp (fault : Bool) (books : List Nat) :
      ((s.retireLift fault books).removeLift n).offerDelivery = cutUp (s.retireLift fault books) := by
    rw [State.removeLift, State.retireLift_lifting]
  refine ⟨fun busy => command_answer running right (if_pos (Option.isSome_iff_ne_none.2 busy)),
    fun free c closed => ⟨fun number => ?_, fun number member => ?_, fun stranger => ?_⟩,
    fun free closed => ⟨fun o isOpen number => ?_, fun other => ?_⟩,
    fun other => command_answer running right (State.cutDone_other outcome other),
    fun l goes number => ⟨fun unnamed => ?_, fun done => ?_, fun fault => ?_⟩⟩
  · refine command_answer running right ((State.takeLift_closed free closed).trans ?_)
    rw [if_pos number]
    exact congrArg (·, _) (dispatches s c.books)
  · refine command_answer running right ((State.takeLift_closed free closed).trans ?_)
    rw [if_neg number]
    exact if_pos (numbers.2 member)
  · have number : c.number ≠ n := stranger c (List.mem_of_find?_eq_some closed)
    refine command_answer running right ((State.takeLift_closed free closed).trans ?_)
    rw [if_neg number]
    exact if_neg (mt numbers.1 fun ⟨l, mem, same⟩ => stranger l mem same)
  · refine command_answer running right ((State.takeLift_open free closed isOpen).trans ?_)
    rw [if_pos number]
    exact congrArg (·, _) (dispatches (s.closeLift n) o.books)
  · cases isOpen : s.lifting.openLift with
    | none => exact command_answer running right (State.takeLift_none free closed isOpen)
    | some o =>
      exact command_answer running right ((State.takeLift_open free closed isOpen).trans (if_neg (other o isOpen)))
  · exact command_answer running right ((State.cutDone_number outcome goes number).2.2 unnamed)
  · subst done
    refine command_answer running right (((State.cutDone_number 0 goes number).1 rfl).trans ?_)
    exact congrArg (·, _) (cutsUp false l.books)
  · subst fault
    refine command_answer running right (((State.cutDone_number 1 goes number).2.1 rfl).trans ?_)
    exact congrArg (·, _) (cutsUp true l.books)

/-! ### Writes -/

/-- R195: a configuration write that its body answers. -/
theorem configWrite_answer {t : State} {code : Byte} {subject : Nat} {body : State → State × Reply} {r : Reply}
    (running : s.stoppage.held = false) (role : s.ports[p].role ≠ .observer) (mode : s.clock.mode = .setup)
    (h : body s = (t, r)) : (.next (s.configWrite p code subject body) : Answer) = .next (t.finish p code r) := by
  rw [State.configWrite_taken running role mode, h]

theorem Reply.taken_outside (lo hi : Nat) (v : Int) (n : Nat) :
    Reply.taken (outside lo hi v) n = ⟨if (lo : Int) ≤ v ∧ v ≤ hi then .ok else .adjusted, n⟩ := by
  rw [Reply.taken, outside_eq]
  by_cases within : (lo : Int) ≤ v ∧ v ≤ hi <;> simp [within]

/-- R195: a field written with its value brought into the range. -/
theorem configWrite_bring {write : Nat → State} {lo hi n : Nat} {v : Int} {code : Byte} {subject : Nat}
    {body : State → State × Reply} (running : s.stoppage.held = false) (role : s.ports[p].role ≠ .observer)
    (mode : s.clock.mode = .setup) (ordered : lo ≤ hi)
    (h : body s = (write (bring lo hi v), .taken (outside lo hi v) n)) :
    (.next (s.configWrite p code subject body) : Answer)
      = .next ((write (max (lo : Int) (min hi v)).toNat).finish p code
        ⟨if (lo : Int) ≤ v ∧ v ≤ hi then .ok else .adjusted, n⟩) := by
  rw [bring_eq v ordered, Reply.taken_outside] at h
  exact configWrite_answer running role mode h

/-- R195: a signed field. -/
theorem configWrite_bringInt {write : Int → State} {lo hi v : Int} {n : Nat} {code : Byte} {subject : Nat}
    {body : State → State × Reply} (running : s.stoppage.held = false) (role : s.ports[p].role ≠ .observer)
    (mode : s.clock.mode = .setup) (ordered : lo ≤ hi)
    (h : body s = (write (bringInt lo hi v), .taken (decide (v < lo ∨ hi < v)) n)) :
    (.next (s.configWrite p code subject body) : Answer) = .next ((write (max lo (min hi v))).finish p code
      ⟨if lo ≤ v ∧ v ≤ hi then .ok else .adjusted, n⟩) := by
  have reply : Reply.taken (decide (v < lo ∨ hi < v)) n = ⟨if lo ≤ v ∧ v ≤ hi then .ok else .adjusted, n⟩ := by
    by_cases within : lo ≤ v ∧ v ≤ hi
    · rw [if_pos within, Reply.taken, decide_eq_false (by omega)]
      rfl
    · rw [if_neg within, Reply.taken, decide_eq_true (by omega)]
      rfl
  rw [bringInt_eq v ordered, reply] at h
  exact configWrite_answer running role mode h

/-- R203: a value that is neither no nor yes. -/
theorem yesNo_none {v : Int} (h : v < 0 ∨ 1 < v) : yesNo v = none := by
  rw [yesNo, if_neg (by omega), if_neg (by omega)]

theorem channelOf_of_eq {b : Byte} {c : Fin 8} (h : b.toNat = c) : channelOf b = some c := by
  have inside : b.toNat < 8 := by omega
  rw [channelOf, dif_pos inside]
  exact congrArg some (Fin.ext h)

theorem channelOf_of_le {b : Byte} (h : 8 ≤ b.toNat) : channelOf b = none :=
  dif_neg (Nat.not_lt.2 h)

/-! ### SET GEOMETRY, SET STATION and SET SENSOR (R6 to R8) -/

/-- R7: the fields of SET GEOMETRY end at 7. -/
theorem State.setGeometry_unnamed {field : Byte} (v : Int) (unnamed : 8 ≤ field.toNat) :
    s.setGeometry field v = (s, ⟨.refusedRange, 0⟩) := by
  unfold State.setGeometry
  obtain ⟨k, number⟩ := Nat.exists_eq_add_of_le' unnamed
  generalize field.toNat = n at number ⊢
  subst number
  rfl

/-- R8 and R203: the station of a selector. -/
theorem stationOf_of_eq {b : Byte} {i : Fin 7} (h : b.toNat = i.val + 1) :
    ∃ st, stationOf b = some st ∧ st.index = i := by
  unfold stationOf
  rw [h]
  match i with
  | 0 => exact ⟨.infeed, rfl, rfl⟩
  | 1 => exact ⟨.mill, rfl, rfl⟩
  | 2 => exact ⟨.spineGlue, rfl, rfl⟩
  | 3 => exact ⟨.sideGlue, rfl, rfl⟩
  | 4 => exact ⟨.cover, rfl, rfl⟩
  | 5 => exact ⟨.nip, rfl, rfl⟩
  | 6 => exact ⟨.release, rfl, rfl⟩

theorem stationOf_none {b : Byte} (h : b.toNat = 0 ∨ 8 ≤ b.toNat) : stationOf b = none := by
  unfold stationOf
  generalize b.toNat = n at h ⊢
  obtain rfl | unnamed := h
  · rfl
  · obtain ⟨k, rfl⟩ := Nat.exists_eq_add_of_le' unnamed
    rfl

theorem Station.eq_infeed_iff {st : Station} : st = .infeed ↔ st.index = 0 := by
  cases st <;> decide

theorem sensorOf_of_eq {b : Byte} {i : Fin 4} (h : b.toNat = i) : ∃ n, sensorOf b = some n ∧ sensorIndex n = i := by
  unfold sensorOf
  rw [h]
  match i with
  | 0 => exact ⟨.block, rfl, rfl⟩
  | 1 => exact ⟨.home, rfl, rfl⟩
  | 2 => exact ⟨.jamA, rfl, rfl⟩
  | 3 => exact ⟨.jamB, rfl, rfl⟩

theorem sensorOf_none {b : Byte} (h : 4 ≤ b.toNat) : sensorOf b = none := by
  unfold sensorOf
  generalize b.toNat = n at h ⊢
  obtain ⟨k, rfl⟩ := Nat.exists_eq_add_of_le' h
  rfl

theorem edgeOf_of_eq {b : Byte} {e : EdgeSelect} (h : b.toNat = e.code) : edgeOf b = some e := by
  unfold edgeOf
  rw [h]
  cases e <;> rfl

theorem edgeOf_none {b : Byte} (h : 3 ≤ b.toNat) : edgeOf b = none := by
  unfold edgeOf
  generalize b.toNat = n at h ⊢
  obtain ⟨k, rfl⟩ := Nat.exists_eq_add_of_le' h
  rfl

theorem Sensor.eq_home_iff {n : Sensor} : n = .home ↔ sensorIndex n = 1 := by
  cases n <;> decide

/-- A flag that says whether values were adjusted, as the result. -/
theorem Reply.taken_of_iff {adjusted : Bool} {within : Prop} [Decidable within] (n : Nat)
    (h : adjusted = true ↔ ¬ within) :
    Reply.taken adjusted n = ⟨if within then .ok else .adjusted, n⟩ := by
  unfold Reply.taken
  by_cases holds : within
  · rw [if_pos holds, if_neg (mt h.1 (not_not_intro holds))]
  · rw [if_neg holds, if_pos (h.2 holds)]

theorem State.setStation_named {station d : Byte} {phase : Word16} {i : Fin 7} (h : station.toNat = i.val + 1) :
    let far := if i = 0 then 0 else s.clock.geometry.clampCount - 1
    s.setStation station d phase = ({ s with clock := { s.clock with
      stations := s.clock.stations.set i ⟨min d.toNat far, min phase.toNat (s.clock.geometry.pitchCounts - 1)⟩ } },
      ⟨if d.toNat ≤ far ∧ phase.toNat ≤ s.clock.geometry.pitchCounts - 1 then .ok else .adjusted, 0⟩) := by
  obtain ⟨st, named, rfl⟩ := stationOf_of_eq h
  simp only [State.setStation, named, Station.eq_infeed_iff]
  refine congrArg (_, ·) (Reply.taken_of_iff 0 ?_)
  simp only [Bool.or_eq_true, decide_eq_true_eq]
  omega

theorem State.setSensor_named {sensor edge debounce : Byte} {i : Fin 4} {e : EdgeSelect} (h : sensor.toNat = i)
    (code : edge.toNat = e.code) :
    s.setSensor sensor edge debounce = ({ s with clock := { s.clock with
      sensors := s.clock.sensors.set i { s.clock.sensors[i] with
        edge := if i = 1 ∧ e = .both then .rising else e, debounce := min debounce.toNat 10 } } },
      ⟨if (i = 1 ∧ e = .both) ∨ 10 < debounce.toNat then .adjusted else .ok, 0⟩) := by
  obtain ⟨n, named, rfl⟩ := sensorOf_of_eq h
  simp only [State.setSensor, named, edgeOf_of_eq code, Sensor.eq_home_iff, Reply.taken, Bool.or_eq_true,
    decide_eq_true_eq]

/-- Settles O53: command by command and field by field. -/
theorem geometryStationsAndSensorsAreWritten : Obligations.GeometryStationsAndSensorsAreWritten := by
  unfold Obligations.GeometryStationsAndSensorsAreWritten
  intro p s running role mode into result g top clocked geo
  refine ⟨fun v => ?_, fun station d phase => ⟨fun i named => ?_, fun unnamed => ?_⟩, fun sensor edge debounce =>
    ⟨fun i e named code => ?_, fun unnamed => ?_⟩⟩
  · refine ⟨fun empty => ?_, fun occupied => ?_, ?_, ?_, ?_, ?_, ?_, fun room => ?_, fun full => ?_, fun zero => ?_,
      fun one => ?_, fun neither => ?_, fun field unnamed =>
        configWrite_answer running role mode (State.setGeometry_unnamed _ unnamed)⟩
    · exact configWrite_bring (write := fun n => s.writeClampCount n) (lo := 8) (hi := 32) running role mode (by decide)
        (if_pos (Carousel.allEmpty_iff.2 empty))
    · exact configWrite_answer running role mode (if_neg (by simpa [Carousel.allEmpty_iff] using occupied))
    · exact configWrite_bring (write := fun n => s.writePitchCounts n) (lo := 1024) (hi := 16384) running role mode
        (by decide) rfl
    · exact configWrite_bring (write := fun n => s.setGeo fun g => { g with pitchLength := n }) (lo := 200000)
        (hi := 1200000) running role mode (by decide) rfl
    · exact configWrite_bring (write := fun n => s.setGeo fun g => { g with homePhase := n }) (lo := 0) running role
        mode (Nat.zero_le _) rfl
    · exact configWrite_bring (write := fun n => s.setGeo fun g => { g with homeTolerance := n }) (lo := 8) (hi := 512)
        running role mode (by decide) rfl
    · exact configWrite_bring (write := fun n => s.setGeo fun g => { g with reverseTolerance := n }) (lo := 4)
        (hi := 256) running role mode (by decide) rfl
    · have fits : ¬ bring 1 48 v.toInt < s.occupancy := by
        rw [bring_eq _ (by decide)]
        exact Nat.not_lt.2 room
      exact configWrite_bring (write := fun n => s.setGeo fun g => { g with capacity := n }) (lo := 1) (hi := 48)
        running role mode (by decide) (if_neg fits)
    · have crowded : bring 1 48 v.toInt < s.occupancy := by
        rw [bring_eq _ (by decide)]
        exact full
      exact configWrite_answer running role mode (if_pos crowded)
    · exact configWrite_answer running role mode (if_pos zero)
    · exact configWrite_answer running role mode ((if_neg (by omega)).trans (if_pos one))
    · exact configWrite_answer running role mode ((if_neg (by omega)).trans (if_neg (by omega)))
  · exact configWrite_answer running role mode (State.setStation_named named)
  · refine configWrite_answer running role mode ?_
    simp only [State.setStation, stationOf_none unnamed]
    rfl
  · exact configWrite_answer running role mode (State.setSensor_named named code)
  · refine configWrite_answer running role mode ?_
    obtain unnamed | unnamed := unnamed
    · simp only [State.setSensor, sensorOf_none unnamed]
      rfl
    · simp only [State.setSensor, edgeOf_none unnamed]
      cases sensorOf sensor with
      | none => rfl
      | some n => rfl

end Sys2Proof.Machine
end

section
/-!
PROOF. The configuration writes of the cam channels, the pots, the job classes, the gauge, the durations and the lift
limits, field by field (R54 to R57, R115, R116, R134, R144, R161).
-/

namespace Sys2Proof.Machine

variable {s : State} {p : PortId}

/-! ### SET CAM WINDOW and FORCE CAM (R134, R144) -/

theorem isGlueChannel_eq (c : Fin 8) : isGlueChannel c = decide (c = 2 ∨ c = 3) := by
  revert c
  decide

/-- R134: the fields of SET CAM WINDOW end at 2, and its channels at 7. -/
theorem State.setCamWindow_unnamed {channel field : Byte} {v : Int}
    (unnamed : 8 ≤ channel.toNat ∨ 3 ≤ field.toNat) :
    s.setCamWindow channel field v = (s, ⟨.refusedRange, channel.toNat⟩) := by
  unfold State.setCamWindow
  obtain unnamed | unnamed := unnamed
  · simp only [channelOf_of_le unnamed]
    rfl
  · obtain ⟨k, number⟩ := Nat.exists_eq_add_of_le' unnamed
    generalize field.toNat = n at number ⊢
    subst number
    cases channelOf channel with
    | none => rfl
    | some c => rfl

/-- R134: a field of one channel, by what the field does to it. -/
theorem State.setCamWindow_channel {channel : Byte} {c : Fin 8} (v : Int) (named : channel.toNat = c) :
    (s.setCamWindow channel 0 v = if isGlueChannel c then (s, ⟨.refusedRange, channel.toNat⟩)
      else (s.modifyCam c fun x => { x with start := bring 0 s.clock.geometry.pitchCounts v },
        .taken (outside 0 s.clock.geometry.pitchCounts v) channel.toNat))
    ∧ (s.setCamWindow channel 1 v = if isGlueChannel c then (s, ⟨.refusedRange, channel.toNat⟩)
      else (s.modifyCam c fun x => { x with length := bring 0 s.clock.geometry.pitchCounts v },
        .taken (outside 0 s.clock.geometry.pitchCounts v) channel.toNat))
    ∧ (∀ low, yesNo v = some low →
      s.setCamWindow channel 2 v = (s.modifyCam c fun x => { x with activeLow := low }, ⟨.ok, channel.toNat⟩))
    ∧ (yesNo v = none → s.setCamWindow channel 2 v = (s, ⟨.refusedRange, channel.toNat⟩)) := by
  unfold State.setCamWindow
  simp only [channelOf_of_eq named]
  refine ⟨rfl, rfl, fun low value => ?_, fun value => ?_⟩
  · simp only [value]
    rfl
  · simp only [value]
    rfl

theorem State.forceCam_channel {channel onOff : Byte} {c : Fin 8} {on : Bool} (named : channel.toNat = c)
    (value : yesNo onOff.toNat = some on) :
    s.forceCam channel onOff = (s.modifyCam c fun x => { x with forced := on }, ⟨.ok, channel.toNat⟩) := by
  unfold State.forceCam
  simp only [channelOf_of_eq named, value]
  rfl

theorem State.forceCam_unnamed {channel onOff : Byte} (unnamed : 8 ≤ channel.toNat ∨ 2 ≤ onOff.toNat) :
    s.forceCam channel onOff = (s, ⟨.refusedRange, channel.toNat⟩) := by
  unfold State.forceCam
  obtain unnamed | unnamed := unnamed
  · simp only [channelOf_of_le unnamed]
    rfl
  · simp only [yesNo_none (v := onOff.toNat) (.inr (by omega))]
    cases channelOf channel with
    | none => rfl
    | some c => rfl

/-! ### SET GLUE (R115) -/

theorem State.setGlue_unnamed {pot field : Byte} {v : Int} (unnamed : 2 ≤ pot.toNat ∨ 6 ≤ field.toNat) :
    s.setGlue pot field v = (s, ⟨.refusedRange, pot.toNat⟩) := by
  unfold State.setGlue
  obtain unnamed | unnamed := unnamed
  · simp only [potOf_of_le unnamed]
    rfl
  · obtain ⟨k, number⟩ := Nat.exists_eq_add_of_le' unnamed
    generalize field.toNat = n at number ⊢
    subst number
    cases potOf pot with
    | none => rfl
    | some id => rfl

/-- R115: the numeric fields of a pot. -/
theorem State.setGlue_number {pot : Byte} {id : PotId} (v : Int) (named : potOf pot = some id) :
    s.setGlue pot 0 v = (s.modifyPot id fun q => { q with low := bring 1000 2300 v },
      .taken (outside 1000 2300 v) pot.toNat)
    ∧ s.setGlue pot 1 v = (s.modifyPot id fun q => { q with high := bring 1000 2300 v },
      .taken (outside 1000 2300 v) pot.toNat)
    ∧ s.setGlue pot 2 v = (s.modifyPot id fun q => { q with hysteresis := bring 0 100 v },
      .taken (outside 0 100 v) pot.toNat)
    ∧ s.setGlue pot 3 v = (s.modifyPot id fun q => { q with offset := bringInt (-200) 200 v },
      .taken (decide (v < -200 ∨ 200 < v)) pot.toNat)
    ∧ s.setGlue pot 4 v = (s.modifyPot id fun q => { q with shift := bring 0 4 v },
      .taken (outside 0 4 v) pot.toNat) := by
  unfold State.setGlue
  simp only [named]
  exact ⟨rfl, rfl, rfl, rfl, rfl⟩

/-- R115: the enable of the SIDE pot alone. -/
theorem State.setGlue_enable {pot : Byte} {v : Int} :
    (potOf pot = some .spine ∨ (potOf pot = some .side ∧ yesNo v = none) →
      s.setGlue pot 5 v = (s, ⟨.refusedRange, pot.toNat⟩))
    ∧ (∀ on, potOf pot = some .side → yesNo v = some on → s.setGlue pot 5 v = (s.enableSide on, ⟨.ok, pot.toNat⟩)) := by
  unfold State.setGlue
  refine ⟨fun refused => ?_, fun on side value => ?_⟩
  · obtain spine | ⟨side, value⟩ := refused
    · simp only [spine]
      rfl
    · simp only [side, value]
      rfl
  · simp only [side, value]
    rfl

/-- R115: disabling the SIDE pot. -/
theorem State.enableSide_off (s : State) :
    let off (u : State) : State := u.modifyPot .side fun q =>
      { q with state := .unknown, enabled := false, settle := none, heatUp := none, stale := none }
    s.enableSide false = if s.glue.side.state = .unknown then off s else off (s.raise .glue) := by
  intro off
  have spelled : s.enableSide false = (s.changePot .side .unknown).modifyPot .side fun q =>
      { q with enabled := false, settle := none, heatUp := none, stale := none } := rfl
  rw [spelled]
  by_cases same : s.glue.side.state = .unknown
  · have kept : s.changePot .side .unknown = s := if_pos same
    rw [if_pos same, kept]
    exact congrArg (fun st => s.modifyPot .side fun q =>
      { q with state := st, enabled := false, settle := none, heatUp := none, stale := none }) same
  · have entered : s.changePot .side .unknown = s.enterPotState .side .unknown := if_neg same
    rw [if_neg same, entered, s.enterPotState_unknown]
    rfl

/-- Settles O54: command by command and field by field. -/
theorem camsAndPotsAreWritten : Obligations.CamsAndPotsAreWritten := by
  unfold Obligations.CamsAndPotsAreWritten
  intro p s running role mode into result e cam
  refine ⟨fun channel v => ?_, fun channel onOff => ?_, fun pot v => ?_⟩
  · intro x refused
    refine ⟨fun c named => ?_, fun unnamed field =>
      configWrite_answer running role mode (State.setCamWindow_unnamed (.inl unnamed))⟩
    obtain ⟨start, length, level, noLevel⟩ := State.setCamWindow_channel (s := s) x named
    rw [isGlueChannel_eq] at start length
    have polarity (low : Bool) (value : yesNo x = some low) :
        exec (.setCamWindow p channel 2 v) s = cam 0x72 c { s.cams[c] with activeLow := low } .ok :=
      (configWrite_answer running role mode (level low value)).trans (by rw [named]; rfl)
    refine ⟨fun notSpine notSide => ?_, fun glue => ?_, fun zero => polarity false (if_pos zero), fun one =>
      polarity true ((if_neg (by omega)).trans (if_pos one)), fun neither =>
      configWrite_answer running role mode (noLevel (yesNo_none neither)), fun field unnamed =>
      configWrite_answer running role mode (State.setCamWindow_unnamed (.inr unnamed))⟩
    · have fixed : ¬ decide (c = 2 ∨ c = 3) = true := by simp [notSpine, notSide]
      rw [if_neg fixed, named] at start length
      exact ⟨configWrite_bring (write := fun n => s.modifyCam c fun x => { x with start := n }) running role mode
          (Nat.zero_le _) start,
        configWrite_bring (write := fun n => s.modifyCam c fun x => { x with length := n }) running role mode
          (Nat.zero_le _) length⟩
    · rw [if_pos (decide_eq_true glue)] at start length
      exact ⟨configWrite_answer running role mode start, configWrite_answer running role mode length⟩
  · refine ⟨fun c named => ?_, fun unnamed => configWrite_answer running role mode (State.forceCam_unnamed unnamed)⟩
    have forces (on : Bool) (value : yesNo onOff.toNat = some on) :
        exec (.forceCam p channel onOff) s = cam 0x79 c { s.cams[c] with forced := on } .ok :=
      (configWrite_answer running role mode (State.forceCam_channel named value)).trans (by rw [named]; rfl)
    exact ⟨fun zero => forces false (by rw [zero]; rfl), fun one => forces true (by rw [one]; rfl)⟩
  · intro x refused
    refine ⟨fun unnamed field => configWrite_answer running role mode (State.setGlue_unnamed (.inl unnamed)),
      fun id named => ?_⟩
    have found := potOf_of_eq named
    obtain ⟨low, high, hysteresis, offset, shift⟩ := State.setGlue_number (s := s) x found
    obtain ⟨noEnable, enable⟩ := State.setGlue_enable (s := s) (pot := pot) (v := x)
    intro written
    refine ⟨configWrite_bring (write := fun n => s.modifyPot id fun q => { q with low := n }) running role mode
        (by decide) low,
      configWrite_bring (write := fun n => s.modifyPot id fun q => { q with high := n }) running role mode
        (by decide) high,
      configWrite_bring (write := fun n => s.modifyPot id fun q => { q with hysteresis := n }) running role mode
        (by decide) hysteresis,
      configWrite_bringInt (write := fun n => s.modifyPot id fun q => { q with offset := n }) running role mode
        (by decide) offset,
      configWrite_bring (write := fun n => s.modifyPot id fun q => { q with shift := n }) running role mode
        (by decide) shift, fun wrong => ?_, fun side one => ?_, fun side zero => ?_,
      fun field unnamed => configWrite_answer running role mode (State.setGlue_unnamed (.inr unnamed))⟩
    · refine configWrite_answer running role mode (noEnable ?_)
      cases id with
      | spine => exact .inl found
      | side => exact .inr ⟨found, yesNo_none (wrong.resolve_left PotId.noConfusion)⟩
    · subst side
      exact configWrite_answer running role mode (enable true found ((if_neg (by omega)).trans (if_pos one)))
    · subst side
      have disabled : exec (.setGlue p pot 5 v) s = .next ((s.enableSide false).finish p 0x75 ⟨.ok, pot.toNat⟩) :=
        configWrite_answer running role mode (enable false found (if_pos zero))
      rw [State.enableSide_off] at disabled
      refine ⟨fun same => ?_, fun other => ?_⟩
      · rw [if_pos same] at disabled
        exact disabled
      · rw [if_neg other] at disabled
        exact disabled

/-! ### SET JOB CLASS and SET GAUGE CAL (R54 to R57) -/

theorem State.setJobClass_unnamed {cls field : Byte} {v : Int} (unnamed : 8 ≤ cls.toNat ∨ 9 ≤ field.toNat) :
    s.setJobClass cls field v = (s, ⟨.refusedRange, cls.toNat⟩) := by
  unfold State.setJobClass
  obtain unnamed | unnamed := unnamed
  · simp only [channelOf_of_le unnamed]
    rfl
  · obtain ⟨k, number⟩ := Nat.exists_eq_add_of_le' unnamed
    generalize field.toNat = n at number ⊢
    subst number
    cases channelOf cls with
    | none => rfl
    | some c => exact if_neg (by omega)

/-- R55: a numeric field of a job class, by its range. -/
theorem State.setJobClass_number {cls field : Byte} {c : Fin 8} {lo hi : Nat} (v : Int) (named : cls.toNat = c)
    (range : jobClassRange field.toNat = some (lo, hi)) :
    s.setJobClass cls field v = (s.modifyClass c (JobClass.write field.toNat (bring lo hi v)),
      .taken (outside lo hi v) cls.toNat) := by
  have numeric : field.toNat ≠ 6 := by
    intro six
    rw [six] at range
    cases range
  unfold State.setJobClass
  simp only [channelOf_of_eq named, if_neg numeric, range]

/-- R55: the one field of a job class that is yes or no. -/
theorem State.setJobClass_side {cls : Byte} {c : Fin 8} (v : Int) (named : cls.toNat = c) :
    (∀ used, yesNo v = some used →
      s.setJobClass cls 6 v = (s.modifyClass c fun x => { x with sideUsed := used }, ⟨.ok, cls.toNat⟩))
    ∧ (yesNo v = none → s.setJobClass cls 6 v = (s, ⟨.refusedRange, cls.toNat⟩)) := by
  unfold State.setJobClass
  simp only [channelOf_of_eq named]
  refine ⟨fun used value => ?_, fun value => ?_⟩
  · simp only [value]
    rfl
  · simp only [value]
    rfl

theorem State.setGaugeCal_unnamed {field : Byte} {v : Int} (unnamed : 4 ≤ field.toNat) :
    s.setGaugeCal field v = (s, ⟨.refusedRange, 0⟩) := by
  unfold State.setGaugeCal
  obtain ⟨k, number⟩ := Nat.exists_eq_add_of_le' unnamed
  generalize field.toNat = n at number ⊢
  subst number
  rfl

/-! ### SET TIMERS and SET LIFT LIMITS (R11, R36, R116, R161) -/

theorem State.setTimers_unnamed {field : Byte} {v : Int} (unnamed : 8 ≤ field.toNat) :
    s.setTimers field v = (s, ⟨.refusedRange, 0⟩) := by
  unfold State.setTimers
  obtain ⟨k, number⟩ := Nat.exists_eq_add_of_le' unnamed
  generalize field.toNat = n at number ⊢
  subst number
  rfl

theorem State.setTimers_number {field : Byte} {lo hi : Nat} (v : Int) (range : timerRange field.toNat = some (lo, hi)) :
    s.setTimers field v = ({ s with timers := s.timers.write field.toNat (bring lo hi v) },
      .taken (outside lo hi v) 0) := by
  unfold State.setTimers
  simp only [range]

theorem State.setLiftLimits_empty {field : Byte} {v : Int} (empty : s.lifting.lifts = []) :
    s.setLiftLimits 0 v = (s.modifyLimits fun l => { l with maxCount := bring 1 16 v }, .taken (outside 1 16 v) 0)
    ∧ s.setLiftLimits 1 v = (s.modifyLimits fun l => { l with maxHeight := bring 10000 150000 v },
      .taken (outside 10000 150000 v) 0)
    ∧ s.setLiftLimits 2 v = (s.modifyLimits fun l => { l with tolerance := bring 0 2000 v },
      .taken (outside 0 2000 v) 0)
    ∧ (3 ≤ field.toNat → s.setLiftLimits field v = (s, ⟨.refusedRange, 0⟩)) := by
  have allowed : ¬ (!s.lifting.lifts.isEmpty) = true := by simp [empty]
  refine ⟨if_neg allowed, if_neg allowed, if_neg allowed, fun unnamed => (if_neg allowed).trans ?_⟩
  obtain ⟨k, number⟩ := Nat.exists_eq_add_of_le' unnamed
  generalize field.toNat = n at number ⊢
  subst number
  rfl

theorem State.setLiftLimits_refused {field : Byte} {v : Int} (lifts : s.lifting.lifts ≠ []) :
    s.setLiftLimits field v = (s, ⟨.refusedMode, 0⟩) :=
  if_pos (by simp [lifts])

/-- Settles O55: command by command; the numeric fields through the table of their ranges. -/
theorem classesGaugeTimersAndLimitsAreWritten : Obligations.ClassesGaugeTimersAndLimitsAreWritten := by
  unfold Obligations.ClassesGaugeTimersAndLimitsAreWritten
  intro p s v running role mode x into result
  refine ⟨fun cls => ?_, ?_, ?_, ?_⟩
  · intro refused
    refine ⟨fun k named => ?_, fun unnamed field =>
      configWrite_answer running role mode (State.setJobClass_unnamed (.inl unnamed))⟩
    intro written c
    have number (field : Byte) (lo hi : Nat) (ordered : lo ≤ hi) (range : jobClassRange field.toNat = some (lo, hi)) :
        exec (.setJobClass p cls field v) s = written (c.write field.toNat (into lo hi)) (result lo hi) :=
      configWrite_bring (write := fun n => s.modifyClass k (JobClass.write field.toNat n)) running role mode ordered
        (State.setJobClass_number x named range)
    obtain ⟨side, noSide⟩ := State.setJobClass_side (s := s) x named
    refine ⟨?_, fun zero => configWrite_answer running role mode (side false (if_pos zero)), fun one =>
      configWrite_answer running role mode (side true ((if_neg (by omega)).trans (if_pos one))), fun neither =>
      configWrite_answer running role mode (noSide (yesNo_none neither)), fun field unnamed =>
      configWrite_answer running role mode (State.setJobClass_unnamed (.inr unnamed))⟩
    simp only [List.forall_mem_cons]
    exact ⟨number 0 0 4000 (by decide) rfl, number 1 5000 12000 (by decide) rfl, number 2 0 1500 (by decide) rfl,
      number 3 0 800 (by decide) rfl, number 4 0 20000 (by decide) rfl, number 5 0 40000 (by decide) rfl,
      number 7 5000 300000 (by decide) rfl, number 8 0 10000 (by decide) rfl, List.forall_mem_nil _⟩
  · intro gauged g
    refine ⟨fun zero => configWrite_answer running role mode (if_pos zero), fun one =>
      configWrite_answer running role mode ((if_neg (by omega)).trans (if_pos one)), fun neither =>
      configWrite_answer running role mode ((if_neg (by omega)).trans (if_neg (by omega))), ?_, ?_, ?_,
      fun field unnamed => configWrite_answer running role mode (State.setGaugeCal_unnamed unnamed)⟩
    · exact configWrite_bring (write := fun n => s.modifyGauge fun g => { g with shift := n }) (lo := 0) (hi := 7)
        running role mode (by decide) rfl
    · exact configWrite_bringInt (write := fun n => s.modifyGauge fun g => { g with offset := n }) (lo := -2000)
        (hi := 2000) running role mode (by decide) rfl
    · exact configWrite_bring (write := fun n => s.modifyGauge fun g => { g with spreadLimit := n }) (lo := 0)
        (hi := 5000) running role mode (by decide) rfl
  · intro t
    have number (field : Byte) (lo hi : Nat) (ordered : lo ≤ hi) (range : timerRange field.toNat = some (lo, hi)) :
        exec (.setTimers p field v) s = .next (({ s with timers := t.write field.toNat (into lo hi) } : State).finish p
          0x76 ⟨result lo hi, 0⟩) :=
      configWrite_bring (write := fun n => { s with timers := s.timers.write field.toNat n }) running role mode ordered
        (State.setTimers_number x range)
    refine ⟨?_, fun field unnamed => configWrite_answer running role mode (State.setTimers_unnamed unnamed)⟩
    simp only [List.forall_mem_cons]
    exact ⟨number 0 50 5000 (by decide) rfl, number 1 50 2000 (by decide) rfl, number 2 0 60000 (by decide) rfl,
      number 3 60 3600 (by decide) rfl, number 4 500 10000 (by decide) rfl, number 5 500 15000 (by decide) rfl,
      number 6 0 10000 (by decide) rfl, number 7 1000 120000 (by decide) rfl, List.forall_mem_nil _⟩
  · intro l
    refine ⟨fun lifts field => configWrite_answer running role mode (State.setLiftLimits_refused lifts),
      fun empty => ?_⟩
    obtain ⟨count, height, tolerance, -⟩ := State.setLiftLimits_empty (s := s) (field := 0) (v := x) empty
    refine ⟨?_, fun field unnamed =>
      configWrite_answer running role mode ((State.setLiftLimits_empty empty).2.2.2 unnamed)⟩
    simp only [List.forall_mem_cons]
    exact ⟨configWrite_bring (write := fun n => s.modifyLimits fun l => { l with maxCount := n }) running role mode
        (by decide) count,
      configWrite_bring (write := fun n => s.modifyLimits fun l => { l with maxHeight := n }) running role mode
        (by decide) height,
      configWrite_bring (write := fun n => s.modifyLimits fun l => { l with tolerance := n }) running role mode
        (by decide) tolerance, List.forall_mem_nil _⟩

end Sys2Proof.Machine
end

section
/-!
PROOF. GLUE READING: the columns and rows of the pots' table, and what a reading leaves (R117 to R123).
-/

namespace Sys2Proof.Machine

variable {s : State} {p : PortId}

/-! ### The table of pot states (R118) -/

/-- R118: the columns are parted at low − hysteresis, low, high − hysteresis and high, taken from the left. -/
theorem Pot.bandOf_iff (p : Pot) (v : Nat) :
    (p.bandOf v = .belowBand ↔ (v : Int) < (p.low : Int) - p.hysteresis)
    ∧ (p.bandOf v = .lowMargin ↔ (p.low : Int) - p.hysteresis ≤ v ∧ v < p.low)
    ∧ (p.bandOf v = .band ↔ p.low ≤ v ∧ (v : Int) ≤ (p.high : Int) - p.hysteresis)
    ∧ (p.bandOf v = .highMargin ↔ p.low ≤ v ∧ (p.high : Int) - p.hysteresis < v ∧ v ≤ p.high)
    ∧ (p.bandOf v = .aboveBand ↔ p.low ≤ v ∧ p.high < v) := by
  unfold Pot.bandOf
  split
  next below => simp only [reduceCtorEq, true_iff, false_iff]; omega
  split
  next atLow => simp only [reduceCtorEq, true_iff, false_iff]; omega
  split
  next inBand => simp only [reduceCtorEq, true_iff, false_iff]; omega
  split
  next atHigh => simp only [reduceCtorEq, true_iff, false_iff]; omega
  next above => simp only [reduceCtorEq, true_iff, false_iff]; omega

/-! ### Entering a state (R119 to R123) -/

theorem State.enterPotState_known (id : PotId) {st : PotState} (known : st ≠ .unknown) :
    s.enterPotState id st = (s.modifyPot id fun q => { q with
      state := st
      settle := if st = .settling then some (s.now + s.timers.glueSettle) else none
      heatUp := if st = .cold then some (s.now + 1000 * s.timers.heatUp) else none }).raise .glue := by
  refine congrArg (fun f => (s.modifyPot id f).raise .glue) (funext fun q => ?_)
  rw [Pot.enter, if_neg known]

/-- R119: with a glue settle time of 0 the pot that enters SETTLING is READY, GLUE raised for each change. -/
theorem State.enterPotState_settling_ready (id : PotId) :
    (s.enterPotState id .settling).enterPotState id .ready = ((s.modifyPot id fun q => { q with
      state := .ready, settle := none, heatUp := none }).raise .glue).raise .glue := by
  cases id <;> rfl

/-! ### A reading (R117) -/

theorem Pot.calibrate_eq (q : Pot) (raw : Nat) :
    q.calibrate raw = (min 4000 (max 0 (((min raw 4000 : Nat) : Int) + q.offset))).toNat := by
  rw [Pot.calibrate, Config.topReading, bring_eq _ (by decide)]
  omega

/-- R117: an enabled pot takes the filtered value, restarts its stale timer and decides its state on the new value. -/
theorem State.takeReading_enabled (id : PotId) (raw : Nat) (enabled : (s.glue.pot id).enabled = true) :
    let q := s.glue.pot id
    let v := q.filter (q.calibrate raw)
    let read : State := s.modifyPot id fun q => { q with filtered := v, stale := some (s.now + s.timers.stale) }
    s.takeReading id raw = read.changePot id (q.state.decide (q.bandOf v)) :=
  if_pos enabled

theorem State.takeReading_disabled (id : PotId) (raw : Nat) (disabled : (s.glue.pot id).enabled = false) :
    s.takeReading id raw = s.modifyPot id fun q => { q with filtered := (s.glue.pot id).calibrate raw } :=
  if_neg (by rw [disabled]; exact Bool.false_ne_true)

theorem exec_glueReading_unknown {pot : Byte} {raw : Word16} (running : s.stoppage.held = false)
    (role : s.ports[p].role = .binder) (unnamed : potOf pot = none) :
    exec (.glueReading p pot raw) s = .next (s.finish p 0x37 ⟨.refusedRange, 0⟩) := by
  refine command_answer running (Rights.binder_iff.2 role) ?_
  simp only [unnamed]
  rfl

theorem exec_glueReading_named {pot : Byte} {raw : Word16} {id : PotId} (running : s.stoppage.held = false)
    (role : s.ports[p].role = .binder) (named : potOf pot = some id) (number : potNumber id = pot.toNat) :
    exec (.glueReading p pot raw) s = .next ((s.takeReading id raw.toNat).finish p 0x37
      ⟨if 4000 < raw.toNat then .adjusted else .ok, pot.toNat⟩) := by
  refine command_answer running (Rights.binder_iff.2 role) ?_
  have reply : Reply.taken (decide (Config.topReading < raw.toNat)) pot.toNat
      = ⟨if 4000 < raw.toNat then .adjusted else .ok, pot.toNat⟩ := by
    by_cases adjusted : 4000 < raw.toNat <;> simp [Reply.taken, Config.topReading, adjusted]
  simp only [named, number, reply]

/-- Settles O47: the columns and rows of the table by their cases; a reading by the pot it names and by what the table
decides on the new filtered value. -/
theorem glueReadingDecidesThePot : Obligations.GlueReadingDecidesThePot := by
  unfold Obligations.GlueReadingDecidesThePot
  refine ⟨⟨Pot.bandOf_iff, fun before => by cases before <;> rfl⟩, fun p pot raw s running role => ?_⟩
  intro result
  refine ⟨fun unnamed => exec_glueReading_unknown running role (potOf_of_le unnamed), fun id named => ?_⟩
  have number : potNumber id = pot.toNat := by
    obtain ⟨zero, rfl⟩ | ⟨one, rfl⟩ := named
    · exact zero.symm
    · exact one.symm
  have taken := exec_glueReading_named (raw := raw) running role (potOf_of_eq named) number
  intro q sum calibrated v new read changed
  have calibration : q.calibrate raw.toNat = calibrated := q.calibrate_eq raw.toNat
  have reads (enabled : q.enabled = true) : s.takeReading id raw.toNat = read.changePot id new := by
    have filtered := s.takeReading_enabled id raw.toNat enabled
    dsimp only at filtered
    rw [calibration] at filtered
    exact filtered
  have before : (read.glue.pot id).state = q.state := by
    simp only [read, q, State.pot_modifyPot]
  have changes (other : new ≠ q.state) : ¬ (read.glue.pot id).state = new := fun same =>
    other (same.symm.trans before)
  obtain ⟨sameNow, -, sameTimers, -⟩ := s.modifyPot_frame id fun q =>
    { q with filtered := v, stale := some (s.now + s.timers.stale) }
  refine ⟨fun disabled => ?_, fun enabled same => ?_, fun enabled other lasting => ?_,
    fun enabled other settles atOnce => ?_⟩
  · rw [s.takeReading_disabled id raw.toNat disabled, calibration] at taken
    exact taken
  · have kept : read.changePot id new = read := if_pos (before.trans same.symm)
    rw [reads enabled, kept] at taken
    exact taken
  · have entered := State.enterPotState_known (s := read) id (PotState.decide_ne_unknown q.state (q.bandOf v))
    rw [sameNow, sameTimers] at entered
    have enters : read.changePot id new = changed new :=
      ((if_neg (changes other)).trans (if_neg (by rw [sameTimers]; exact lasting))).trans entered
    rw [reads enabled, enters] at taken
    exact taken
  · have enters : read.changePot id new = (changed .ready).raise .glue :=
      ((if_neg (changes other)).trans (if_pos (by rw [sameTimers]; exact ⟨settles, atOnce⟩))).trans
        (State.enterPotState_settling_ready id)
    rw [reads enabled, enters] at taken
    exact taken

end Sys2Proof.Machine
end

section
/-!
PROOF. The set-point stages: what a computed record holds, the scores, the calipers and the failures (R59 to R76).
-/

namespace Sys2Proof.Machine

variable {job : Job} {samples : List Nat} {c : JobClass} {g : GaugeCal} {e p : Nat} {r : SetPoints} {w : Warnings}

/-! ### What a computed record holds -/

/-- R70: the inner score on the left, before it is rounded. -/
def Job.innerScore (job : Job) (spine : Nat) : Int := (job.coverWidth / 2 : Nat) - ((spine + 1) / 2 : Nat)

/-- R62 to R76: the guards that a computation has passed, and each field of its record and warnings. -/
structure Computed (job : Job) (samples : List Nat) (c : JobClass) (g : GaugeCal) (e p : Nat) (r : SetPoints)
    (w : Warnings) : Prop where
  caliper : r.caliper = caliperOf (samples.map (correctSample g))
  caliperRange : 1500 ≤ r.caliper ∧ r.caliper ≤ 62000
  spine : r.spine = r.caliper + c.glueAllow
  millDepth : r.millDepth = c.millDepth
  fore : 1000 ≤ (job.rawWidth : Int) - c.millDepth - job.width
  foreTrim : r.foreTrim = ((job.rawWidth : Int) - c.millDepth - job.width).toNat
  height : 2000 ≤ (job.rawHeight : Int) - job.height
  headTrim : r.headTrim = ((job.rawHeight : Int) - job.height).toNat / 2 / 10 * 10
  footTrim : r.footTrim = ((job.rawHeight : Int) - job.height).toNat - r.headTrim
  cover : 2 * job.width + r.spine + 4000 ≤ job.coverWidth
  outer1_in : 10000 ≤ roundScore (job.innerScore r.spine - c.hingeOffset)
  outer2_in : roundScore (job.innerScore r.spine + r.spine + c.hingeOffset) ≤ (job.coverWidth : Int) - 10000
  outer1 : r.outer1 = (roundScore (job.innerScore r.spine - c.hingeOffset)).toNat
  inner1 : r.inner1 = (roundScore (job.innerScore r.spine)).toNat
  inner2 : r.inner2 = (roundScore (job.innerScore r.spine + r.spine)).toNat
  outer2 : r.outer2 = (roundScore (job.innerScore r.spine + r.spine + c.hingeOffset)).toNat
  nipGap : r.nipGap = if (r.spine : Int) - c.nipSqueeze < 1000 then 1000 else ((r.spine : Int) - c.nipSqueeze).toNat
  nipFloor : w.nipFloor = decide ((r.spine : Int) - c.nipSqueeze < 1000)
  spineWindow : r.spineWindow = clipWindow e (rawGlueWindow e p job.rawHeight c.spineMargin)
  glueClipped : w.glueClipped = windowClipped e (rawGlueWindow e p job.rawHeight c.spineMargin)
  sideWindow : r.sideWindow =
    if c.sideUsed then some (clipWindow e (rawGlueWindow e p job.rawHeight c.sideMargin)) else none
  sideClipped : w.sideClipped = (c.sideUsed && windowClipped e (rawGlueWindow e p job.rawHeight c.sideMargin))
  windowE : r.windowE = e
  coolingTime : r.coolingTime = min (c.coolBase + r.spine * c.coolPerMm / 1000) 600000
  coolCapped : w.coolCapped = decide (600000 < c.coolBase + r.spine * c.coolPerMm / 1000)

theorem computeSetPoints_ok (h : computeSetPoints job samples c g e p = .ok (r, w)) :
    Computed job samples c g e p r w := by
  unfold computeSetPoints at h
  dsimp only at h
  iterate 6
    split at h
    · cases h
  rename_i range margin short reach
  cases h
  exact {
    caliper := rfl, caliperRange := not_or.1 range |>.imp not_lt.1 not_lt.1, spine := rfl, millDepth := rfl,
    fore := by omega, foreTrim := rfl,
    height := by omega, headTrim := rfl, footTrim := rfl, cover := not_lt.1 short,
    outer1_in := not_lt.1 fun low => reach (.inl low), outer2_in := not_lt.1 fun high => reach (.inr high),
    outer1 := rfl, inner1 := rfl, inner2 := rfl, outer2 := rfl, nipGap := rfl, nipFloor := rfl, spineWindow := rfl,
    glueClipped := rfl, sideWindow := rfl, sideClipped := rfl, windowE := rfl, coolingTime := rfl, coolCapped := rfl }

/-! ### Scores (R70, R71) -/

theorem roundScore_eq (x : Int) : roundScore x = x - x % 50 + (if x % 50 < 25 then 0 else 50) := by
  unfold roundScore
  split <;> omega

/-- R70: a rounded score is a multiple of 50 within 25 of the position. -/
theorem roundScore_spec (x : Int) : 50 ∣ roundScore x ∧ x - 24 ≤ roundScore x ∧ roundScore x ≤ x + 25 := by
  unfold roundScore
  split <;> omega

/-- R71: within the ranges of R34 and R54 the outer scores stay within the cover's reach. -/
theorem scores_reach {spine : Nat} (class_ : c.InRange) (range : job.InRange)
    (cover : 2 * job.width + spine + 4000 ≤ job.coverWidth) :
    10000 ≤ roundScore (job.innerScore spine - c.hingeOffset)
    ∧ roundScore (job.innerScore spine + spine + c.hingeOffset) ≤ (job.coverWidth : Int) - 10000 := by
  obtain ⟨-, ⟨-, hinge⟩, -⟩ := class_
  obtain ⟨-, -, -, -, ⟨width, -⟩, -⟩ := range
  have left := roundScore_spec (job.innerScore spine - c.hingeOffset)
  have right := roundScore_spec (job.innerScore spine + spine + c.hingeOffset)
  unfold Job.innerScore at *
  omega

/-- Settles O22: the rounded scores are within 25 of positions that lie at least 1,500 apart. -/
theorem scoresStandInOrder : Obligations.ScoresStandInOrder := by
  unfold Obligations.ScoresStandInOrder
  refine ⟨fun job samples c g e p r w class_ h => ?_, fun job samples c g e p class_ range h => ?_⟩
  · have made := computeSetPoints_ok h
    obtain ⟨-, ⟨hinge, -⟩, -⟩ := class_
    have low := made.caliperRange.1
    have spine := made.spine
    have within := made.outer1_in
    have within' := made.outer2_in
    have outer1 := roundScore_spec (job.innerScore r.spine - c.hingeOffset)
    have inner1 := roundScore_spec (job.innerScore r.spine)
    have inner2 := roundScore_spec (job.innerScore r.spine + r.spine)
    have outer2 := roundScore_spec (job.innerScore r.spine + r.spine + c.hingeOffset)
    have outer1Eq : (r.outer1 : Int) = roundScore (job.innerScore r.spine - c.hingeOffset) := by
      rw [made.outer1]
      omega
    have inner1Eq : (r.inner1 : Int) = roundScore (job.innerScore r.spine) := by
      rw [made.inner1]
      omega
    have inner2Eq : (r.inner2 : Int) = roundScore (job.innerScore r.spine + r.spine) := by
      rw [made.inner2]
      omega
    have outer2Eq : (r.outer2 : Int) = roundScore (job.innerScore r.spine + r.spine + c.hingeOffset) := by
      rw [made.outer2]
      omega
    exact ⟨⟨inner1Eq.trans (roundScore_eq _), inner2Eq.trans (roundScore_eq _), outer1Eq.trans (roundScore_eq _),
      outer2Eq.trans (roundScore_eq _)⟩, by omega, by omega, by omega, by omega, by omega, by omega, by omega,
      by omega, by omega⟩
  · unfold computeSetPoints at h
    dsimp only at h
    iterate 5
      split at h
      · cases h
    rename_i short
    split at h
    next reach =>
      have reached := scores_reach class_ range (not_lt.1 short)
      exact reach.elim (not_lt.2 reached.1) (not_lt.2 reached.2)
    next fits => cases h

/-! ### Samples (R62 to R65) -/

theorem correctSample_eq (g : GaugeCal) (x : Nat) :
    let term : Int := if g.shift = 0 then 0 else (x / 2 ^ g.shift : Nat)
    let v : Int := match g.sign with
      | .add => x + term + g.offset
      | .subtract => x - term + g.offset
    correctSample g x = (max 0 (min 99999 v)).toNat := by
  intro term v
  exact bring_eq v (by decide)

theorem smallest_of_le {xs : List Nat} {lo : Nat} (mem : lo ∈ xs) (le : ∀ x ∈ xs, lo ≤ x) : smallest xs = lo := by
  rw [smallest, List.min?_eq_some_iff.2 ⟨mem, le⟩, Option.getD_some]

theorem largest_of_le {xs : List Nat} {hi : Nat} (mem : hi ∈ xs) (le : ∀ x ∈ xs, x ≤ hi) : largest xs = hi := by
  rw [largest, List.max?_eq_some_iff.2 ⟨mem, le⟩, Option.getD_some]

/-- R65: the samples used, whichever smallest and largest are set aside. -/
theorem usedSamples_perm {xs used : List Nat} (few : xs.length < 4 → used = xs)
    (many : 4 ≤ xs.length → ∃ lo hi, xs.Perm (lo :: hi :: used) ∧ (∀ x ∈ xs, lo ≤ x) ∧ ∀ x ∈ xs, x ≤ hi) :
    (usedSamples xs).Perm used := by
  unfold usedSamples
  split
  next enough =>
    obtain ⟨lo, hi, perm, least, greatest⟩ := many enough
    have small := smallest_of_le (perm.mem_iff.2 (by simp)) least
    have large := largest_of_le (perm.mem_iff.2 (by simp)) greatest
    rw [small, large]
    have withoutLo := perm.erase lo
    rw [List.erase_cons_head] at withoutLo
    have withoutHi := withoutLo.erase hi
    rwa [List.erase_cons_head] at withoutHi
  next short => rw [few (not_le.1 short)]

theorem caliperOf_eq {xs used : List Nat} (perm : (usedSamples xs).Perm used) :
    caliperOf xs = (used.sum + used.length / 2) / used.length := by
  simp only [caliperOf, perm.sum_nat, perm.length_eq]

/-- R64: the spread fails exactly where two samples lie further apart than the limit. -/
theorem spreadFails_iff {limit : Nat} {xs : List Nat} :
    spreadFails limit xs = true ↔ ∃ x ∈ xs, ∃ y ∈ xs, y + limit < x := by
  cases xs with
  | nil => simp [spreadFails]
  | cons a l =>
    obtain ⟨lo, least⟩ : ∃ lo, (a :: l).min? = some lo := Option.isSome_iff_exists.1 (by simp)
    obtain ⟨hi, greatest⟩ : ∃ hi, (a :: l).max? = some hi := Option.isSome_iff_exists.1 (by simp)
    obtain ⟨loMem, loLe⟩ := List.min?_eq_some_iff.1 least
    obtain ⟨hiMem, hiLe⟩ := List.max?_eq_some_iff.1 greatest
    have spelled : spreadFails limit (a :: l) = true ↔ 2 ≤ (a :: l).length ∧ limit < hi - lo := by
      simp [spreadFails, smallest, largest, least, greatest]
    rw [spelled]
    refine ⟨fun ⟨_, apart⟩ => ⟨hi, hiMem, lo, loMem, by omega⟩, fun ⟨x, xMem, y, yMem, apart⟩ => ⟨?_, ?_⟩⟩
    · by_contra single
      have alone : l = [] := List.eq_nil_of_length_eq_zero (by simp at single ⊢; omega)
      subst alone
      simp at xMem yMem
      omega
    · have low := loLe y yMem
      have high := hiLe x xMem
      omega

/-! ### Glue windows (R73, R74) -/

theorem clipWindow_eq {e : Nat} {x : GlueWindow} (starts : x.start ≤ e) :
    clipWindow e x = ⟨x.start, min x.length (e - x.start)⟩ := by
  unfold clipWindow
  split
  next long => rw [min_eq_right (by omega)]
  next short => rw [min_eq_left (by omega)]

/-- R73: with a margin of at most a fifth of the pitch, a glue window starts before the pitch's end. -/
theorem countsOf_lt {margin : Nat} (short : 5 * margin ≤ p) (pitch : 0 < p) (counts : 1024 ≤ e) :
    countsOf e p margin < e := by
  have scaled : 5 * margin * e ≤ p * e := Nat.mul_le_mul_right e short
  have wide : p * 1024 ≤ p * e := Nat.mul_le_mul_left p counts
  rw [countsOf, Nat.div_lt_iff_lt_mul pitch, Nat.mul_comm e p]
  rw [Nat.mul_assoc] at scaled
  omega

theorem countsOf_pos {length : Nat} (long : 2000 ≤ length) (pitch : 0 < p) (most : p ≤ 1200000) (counts : 1024 ≤ e) :
    1 ≤ countsOf e p length := by
  have product : 2000 * 1024 ≤ length * e := Nat.mul_le_mul long counts
  exact Nat.div_pos (by omega) pitch

theorem clipWindow_fits {x : GlueWindow} (starts : x.start < e) (long : 1 ≤ x.length) :
    (clipWindow e x).start + (clipWindow e x).length ≤ e ∧ 1 ≤ (clipWindow e x).length := by
  rw [clipWindow_eq starts.le]
  dsimp only
  omega

/-- R73: a glue window of a margin that leaves some of the book's height, in a pitch within its range. -/
theorem glueWindow_fits {rawHeight margin : Nat} (short : 5 * margin ≤ p) (long : 2000 ≤ rawHeight - 2 * margin)
    (pitch : 0 < p) (most : p ≤ 1200000) (counts : 1024 ≤ e) :
    (clipWindow e (rawGlueWindow e p rawHeight margin)).start
      + (clipWindow e (rawGlueWindow e p rawHeight margin)).length ≤ e
    ∧ 1 ≤ (clipWindow e (rawGlueWindow e p rawHeight margin)).length :=
  clipWindow_fits (countsOf_lt short pitch counts) (countsOf_pos long pitch most counts)

/-- Settles O23: the fields by what a computed record holds; the failures by the chain of the stages. -/
theorem setPointsStayInTheirRanges : Obligations.SetPointsStayInTheirRanges := by
  unfold Obligations.SetPointsStayInTheirRanges
  refine ⟨fun job samples c g e p r w class_ range counts pitch most h => ?_, correctSample_eq,
    fun xs used some_ few many => caliperOf_eq (usedSamples_perm few many),
    fun job samples c g e p => ?_, fun job samples c g e p r w h => ?_⟩
  · have made := computeSetPoints_ok h
    obtain ⟨-, -, allow, squeeze, spineMargin, sideMargin, ⟨base, -⟩, -⟩ := class_
    obtain ⟨-, ⟨rawHeight, -⟩, -⟩ := range
    obtain ⟨low, high⟩ := made.caliperRange
    have spine := made.spine
    have fore := made.fore
    have height := made.height
    have headTrim := made.headTrim
    have footTrim := made.footTrim
    have foreTrim := made.foreTrim
    have nipGap := made.nipGap
    have spineFits := glueWindow_fits (e := e) (p := p) (rawHeight := job.rawHeight) (margin := c.spineMargin)
      (by omega) (by omega) (by omega) most counts
    have sideFits := glueWindow_fits (e := e) (p := p) (rawHeight := job.rawHeight) (margin := c.sideMargin)
      (by omega) (by omega) (by omega) most counts
    have cooling : r.coolingTime = min 600000 (c.coolBase + r.spine * c.coolPerMm / 1000) := by
      rw [made.coolingTime, min_comm]
    refine ⟨⟨low, high⟩, spine, by omega, made.millDepth, by omega, by omega, by omega, by omega, by omega, by omega,
      by omega, ?_, ?_, ?_, ?_, ?_, ?_, ?_, made.windowE, cooling, by omega⟩
    · split at nipGap <;> omega
    · split at nipGap <;> omega
    · rw [made.nipFloor, decide_eq_true_eq]
      omega
    · rw [made.spineWindow]
      exact spineFits.1
    · rw [made.spineWindow]
      exact spineFits.2
    · intro side window
      rw [made.sideWindow] at window
      split at window
      next used =>
        cases window
        exact sideFits
      next unused => cases window
    · rw [made.sideWindow]
      cases c.sideUsed <;> rfl
  · intro xs result spine wedge range margin short i1 rounded reach
    refine ⟨fun empty => if_pos (by rw [empty]; rfl), fun some_ => ?_⟩
    have samples_ : ¬ samples.map (correctSample g) = [] := by simpa using some_
    have marginIff : margin ↔ (job.rawWidth : Int) - c.millDepth - job.width < 1000
        ∨ (job.rawHeight : Int) - job.height < 2000 := by
      simp only [margin]
      omega
    have reachIff : reach ↔ roundScore (i1 - c.hingeOffset) < 10000
        ∨ (job.coverWidth : Int) - 10000 < roundScore (i1 + spine + c.hingeOffset) := by
      simp only [reach, rounded, ← roundScore_eq]
    have step1 : result = _ := if_neg samples_
    refine ⟨fun fails => step1.trans (if_pos (spreadFails_iff.2 fails)), fun apart fails => ?_,
      fun apart ranged fails => ?_, fun apart ranged room fails => ?_, fun apart ranged room covered fails => ?_,
      fun apart ranged room covered fits => ?_⟩
    all_goals have step2 := step1.trans (if_neg (mt spreadFails_iff.1 apart))
    · exact step2.trans (if_pos fails)
    · exact step2.trans ((if_neg ranged).trans (if_pos (marginIff.1 fails)))
    · exact step2.trans ((if_neg ranged).trans ((if_neg (mt marginIff.2 room)).trans (if_pos fails)))
    · exact step2.trans ((if_neg ranged).trans ((if_neg (mt marginIff.2 room)).trans ((if_neg covered).trans
        (if_pos (reachIff.1 fails)))))
    · exact ⟨_, _, step2.trans ((if_neg ranged).trans ((if_neg (mt marginIff.2 room)).trans ((if_neg covered).trans
        (if_neg (mt reachIff.2 fits))))), rfl⟩
  · have made := computeSetPoints_ok h
    intro counts clipped long
    refine ⟨fun starts => ?_, ?_, fun unused => ?_, fun used => ⟨fun starts => ?_, ?_⟩, ?_⟩
    · rw [made.spineWindow]
      exact clipWindow_eq starts
    · rw [made.glueClipped]
      exact decide_eq_true_iff
    · rw [made.sideWindow, made.sideClipped, unused]
      exact ⟨rfl, rfl⟩
    · rw [made.sideWindow, if_pos used]
      exact congrArg some (clipWindow_eq starts)
    · rw [made.sideClipped, used, Bool.true_and]
      exact decide_eq_true_iff
    · rw [made.coolCapped, decide_eq_true_iff]

end Sys2Proof.Machine
end

section
/-!
PROOF. The layout of an answer: a record is a list of fields, each of a width in bytes, and a field is read back at the
place the widths before it give (R190). READ BOOK by its fields (R204).
-/

namespace Sys2Proof.Machine

/-! ### Records and their layout -/

/-- The bytes of a list of fields, each with its width and its value. -/
def record (fields : List (Nat × Nat)) : List Byte := fields.flatMap fun field => bytesOf field.1 field.2

/-- The fields with the places at which they stand, the first at `start`. -/
def layout (start : Nat) : List (Nat × Nat) → List (Nat × Nat × Nat)
  | [] => []
  | field :: rest => (start, field) :: layout (start + field.1) rest

/-- Every field of the list is read at its place in the answer, modulo 256 to the power of its width. -/
def Holds (answer : List Byte) (fields : List (Nat × Nat × Nat)) : Prop :=
  ∀ entry ∈ fields, natAt answer entry.1 entry.2.1 = entry.2.2 % 256 ^ entry.2.1

theorem record_nil : record [] = [] := rfl

theorem record_cons (width value : Nat) (rest : List (Nat × Nat)) :
    record ((width, value) :: rest) = bytesOf width value ++ record rest := rfl

theorem record_length (fields : List (Nat × Nat)) : (record fields).length = (fields.map Prod.fst).sum := by
  simp [record, List.length_flatMap]

theorem Holds.nil {answer : List Byte} : Holds answer [] := List.forall_mem_nil _

theorem Holds.cons {answer : List Byte} {field : Nat × Nat × Nat} {rest : List (Nat × Nat × Nat)}
    (first : natAt answer field.1 field.2.1 = field.2.2 % 256 ^ field.2.1) (others : Holds answer rest) :
    Holds answer (field :: rest) :=
  List.forall_mem_cons.2 ⟨first, others⟩

theorem Holds.append {answer : List Byte} {xs ys : List (Nat × Nat × Nat)} (first : Holds answer xs)
    (second : Holds answer ys) : Holds answer (xs ++ ys) :=
  List.forall_mem_append.2 ⟨first, second⟩

/-- A record within an answer holds its fields from the place where it begins. -/
theorem holds_record (before after : List Byte) (fields : List (Nat × Nat)) :
    Holds (before ++ (record fields ++ after)) (layout before.length fields) := by
  induction fields generalizing before with
  | nil => exact .nil
  | cons field rest ih =>
    refine .cons ?_ ?_
    · rw [natAt_append_right le_rfl, Nat.sub_self, record_cons, List.append_assoc,
        natAt_append_left (by rw [bytesOf_length, Nat.zero_add]), natAt_bytesOf]
    · have shifted := ih (before ++ bytesOf field.1 field.2)
      rw [List.length_append, bytesOf_length, List.append_assoc] at shifted
      rwa [record_cons, List.append_assoc]

/-- A list of fields that stand next to one another, as the record of their widths and values. -/
theorem Holds.of_record {answer before after : List Byte} {start : Nat} {fields : List (Nat × Nat × Nat)}
    (spelled : answer = before ++ (record (fields.map Prod.snd) ++ after)) (begins : before.length = start)
    (adjacent : layout start (fields.map Prod.snd) = fields) : Holds answer fields := by
  have held := holds_record before after (fields.map Prod.snd)
  rwa [begins, adjacent, ← spelled] at held

/-- A part of an answer holds its fields where it begins. -/
theorem Holds.part {answer part : List Byte} {start size : Nat} {fields shifted : List (Nat × Nat × Nat)}
    (reads : ∀ o w, o + w ≤ size → natAt answer (start + o) w = natAt part o w) (held : Holds part fields)
    (inside : ∀ field ∈ fields, field.1 + field.2.1 ≤ size)
    (same : shifted = fields.map fun field => (start + field.1, field.2)) : Holds answer shifted := by
  subst same
  refine List.forall_mem_map.2 fun field mem => ?_
  rw [reads _ _ (inside field mem)]
  exact held field mem

/-! ### Lists of entries of one size -/

theorem length_flatMap_of_size {α : Type} {f : α → List Byte} {size : Nat} {l : List α}
    (sizes : ∀ a ∈ l, (f a).length = size) : (l.flatMap f).length = size * l.length := by
  rw [List.length_flatMap, List.map_congr_left sizes, List.map_const', List.sum_replicate, smul_eq_mul, Nat.mul_comm]

/-- An entry of a list of entries of one size is read where the entries before it end. -/
theorem natAt_flatMap {α : Type} {f : α → List Byte} {size : Nat} {l : List α} {i : Nat} {a : α}
    (sizes : ∀ a ∈ l, (f a).length = size) (entry : l[i]? = some a) {o w : Nat} (fits : o + w ≤ size) :
    natAt (l.flatMap f) (size * i + o) w = natAt (f a) o w := by
  induction l generalizing i with
  | nil => simp at entry
  | cons b rest ih =>
    have first : (f b).length = size := sizes b List.mem_cons_self
    rw [List.flatMap_cons]
    cases i with
    | zero =>
      obtain rfl : b = a := by simpa using entry
      rw [Nat.mul_zero, Nat.zero_add, natAt_append_left (by omega)]
    | succ j =>
      have beyond : size * (j + 1) + o - size = size * j + o := by
        rw [Nat.mul_succ]
        omega
      rw [natAt_append_right (by rw [first, Nat.mul_succ]; omega), first, beyond]
      exact ih (fun a mem => sizes a (List.mem_cons_of_mem b mem)) (by simpa using entry)

theorem natOf_replicate_zero (n : Nat) : natOf (List.replicate n 0) = 0 := by
  induction n with
  | zero => rfl
  | succ n ih => rw [List.replicate_succ', natOf_append_byte, ih]; rfl

theorem natAt_replicate_zero (n o w : Nat) : natAt (List.replicate n 0) o w = 0 := by
  rw [natAt, List.drop_replicate, List.take_replicate, natOf_replicate_zero]

theorem bytesOf_zero (w : Nat) : bytesOf w 0 = List.replicate w 0 := by
  induction w with
  | zero => rfl
  | succ w ih => rw [bytesOf, Nat.zero_div, ih, List.replicate_succ']; rfl

/-! ### Places and flags -/

@[simp] theorem places_length (count width : Nat) (xs : List Nat) : (places count width xs).length = width * count := by
  rw [places, length_flatMap_of_size fun a _ => bytesOf_length width a]
  simp

/-- A number of a list brought to a count of places is read at its place, and an unused place is 0. -/
theorem natAt_places {count k : Nat} (width : Nat) (xs : List Nat) (inside : k < count) :
    natAt (places count width xs) (width * k) width = xs[k]?.getD 0 % 256 ^ width := by
  have entry : ((xs ++ List.replicate count 0).take count)[k]? = some (xs[k]?.getD 0) := by
    rw [List.getElem?_take_of_lt inside]
    by_cases short : k < xs.length
    · rw [List.getElem?_append_left short, List.getElem?_eq_getElem short, Option.getD_some]
    · rw [List.getElem?_append_right (not_lt.1 short), List.getElem?_replicate, if_pos (by omega),
        List.getElem?_eq_none (not_lt.1 short), Option.getD_none]
  have read := natAt_flatMap (o := 0) (w := width) (fun a _ => bytesOf_length width a) entry (by omega)
  rwa [natAt_bytesOf] at read

theorem flagBits_nil : flagBits [] = 0 := rfl

theorem flagBits_cons (b : Bool) (bits : List Bool) : flagBits (b :: bits) = 2 * flagBits bits + flag b := rfl

/-! ### READ BOOK (R204) -/

variable {s : State}

/-- R204: the fields of READ BOOK before the samples, with their widths. -/
def Book.headFields (b : Book) : List (Nat × Nat) :=
  let job (f : Job → Nat) : Nat := (b.job.map f).getD 0
  [(2, b.serial), (1, b.state.code),
    (1, flag b.job.isSome + 2 * flag b.setPoints.isSome + 4 * flag b.suspect + 8 * flag b.coverApplied
      + 16 * flag b.observedCover.isSome + 32 * flag b.clamp.isSome
      + 64 * flag (b.setPoints.bind SetPoints.sideWindow).isSome + 128 * flag b.coolingDeadline.isSome),
    (1, (b.cause.map RejectCause.code).getD 0),
    (1, flag b.warnings.nipFloor + 2 * flag b.warnings.glueClipped + 4 * flag b.warnings.sideClipped
      + 8 * flag b.warnings.coolCapped),
    (4, job fun j => j.jobKey.toNat), (1, job Job.jobClass), (3, job Job.rawHeight), (3, job Job.height),
    (3, job Job.rawWidth), (3, job Job.width), (3, job Job.coverWidth), (4, b.expectedCover.toNat),
    (1, b.samples.length)]

/-- R204: the fields of READ BOOK after the samples, with their widths. -/
def Book.tailFields (now : Nat) (b : Book) : List (Nat × Nat) :=
  let sp (f : SetPoints → Nat) : Nat := (b.setPoints.map f).getD 0
  let side (f : GlueWindow → Nat) : Nat := ((b.setPoints.bind SetPoints.sideWindow).map f).getD 0
  [(1, b.clamp.getD 0), (1, (b.progress.map Station.code).getD 0), (4, (b.admittedAt.map BitVec.toNat).getD 0),
    (4, (b.observedCover.map BitVec.toNat).getD 0), (1, flag b.openTime.isSome),
    (2, (b.openTime.map fun timer => now - timer.started).getD 0),
    (3, (b.coolingDeadline.map fun due => due - now).getD 0), (1, b.liftNumber.getD 0),
    (3, sp SetPoints.caliper), (3, sp SetPoints.spine), (2, sp SetPoints.millDepth),
    (3, sp SetPoints.headTrim), (3, sp SetPoints.footTrim), (3, sp SetPoints.foreTrim),
    (3, sp SetPoints.outer1), (3, sp SetPoints.inner1), (3, sp SetPoints.inner2), (3, sp SetPoints.outer2),
    (3, sp SetPoints.nipGap), (2, sp fun r => r.spineWindow.start), (2, sp fun r => r.spineWindow.length),
    (2, side GlueWindow.start), (2, side GlueWindow.length), (2, sp SetPoints.windowE), (3, sp SetPoints.coolingTime)]

/-- R204: an absent job reads 0 in every field. -/
theorem jobBytes_eq (j : Option Job) : jobBytes j = record [(4, (j.map fun j => j.jobKey.toNat).getD 0),
    (1, (j.map Job.jobClass).getD 0), (3, (j.map Job.rawHeight).getD 0), (3, (j.map Job.height).getD 0),
    (3, (j.map Job.rawWidth).getD 0), (3, (j.map Job.width).getD 0), (3, (j.map Job.coverWidth).getD 0)] := by
  cases j with
  | none => rfl
  | some j => simp [jobBytes, record]

/-- R204: an absent set-point record, and an absent side window, reads 0 in every field. -/
theorem setPointBytes_eq (r : Option SetPoints) :
    let sp (f : SetPoints → Nat) : Nat := (r.map f).getD 0
    let side (f : GlueWindow → Nat) : Nat := ((r.bind SetPoints.sideWindow).map f).getD 0
    setPointBytes r = record [(3, sp SetPoints.caliper), (3, sp SetPoints.spine), (2, sp SetPoints.millDepth),
      (3, sp SetPoints.headTrim), (3, sp SetPoints.footTrim), (3, sp SetPoints.foreTrim),
      (3, sp SetPoints.outer1), (3, sp SetPoints.inner1), (3, sp SetPoints.inner2), (3, sp SetPoints.outer2),
      (3, sp SetPoints.nipGap), (2, sp fun r => r.spineWindow.start), (2, sp fun r => r.spineWindow.length),
      (2, side GlueWindow.start), (2, side GlueWindow.length), (2, sp SetPoints.windowE),
      (3, sp SetPoints.coolingTime)] := by
  cases r with
  | none => rfl
  | some r => simp [setPointBytes, record]

theorem bookBytes_eq (now : Nat) (b : Book) :
    bookBytes now b = record b.headFields ++ (places 8 3 b.samples ++ record (b.tailFields now)) := by
  have present : flagBits [b.job.isSome, b.setPoints.isSome, b.suspect, b.coverApplied, b.observedCover.isSome,
      b.clamp.isSome, (b.setPoints.bind SetPoints.sideWindow).isSome, b.coolingDeadline.isSome]
      = flag b.job.isSome + 2 * flag b.setPoints.isSome + 4 * flag b.suspect + 8 * flag b.coverApplied
        + 16 * flag b.observedCover.isSome + 32 * flag b.clamp.isSome
        + 64 * flag (b.setPoints.bind SetPoints.sideWindow).isSome + 128 * flag b.coolingDeadline.isSome := by
    simp only [flagBits_cons, flagBits_nil]
    omega
  have warned : flagBits [b.warnings.nipFloor, b.warnings.glueClipped, b.warnings.sideClipped, b.warnings.coolCapped]
      = flag b.warnings.nipFloor + 2 * flag b.warnings.glueClipped + 4 * flag b.warnings.sideClipped
        + 8 * flag b.warnings.coolCapped := by
    simp only [flagBits_cons, flagBits_nil]
    omega
  simp only [bookBytes, present, warned, codeOr, jobBytes_eq, setPointBytes_eq, Book.headFields, Book.tailFields,
    record_cons, record_nil, List.append_assoc, List.append_nil]

@[simp] theorem bookAnswer_length (s : State) (serial : Nat) : (s.bookAnswer serial).length = 117 := by
  unfold State.bookAnswer
  cases s.findBook serial with
  | none => rfl
  | some b => simp [bookBytes_eq, record_length, Book.headFields, Book.tailFields]

/-- Settles O11: a live book's answer is the record of its fields with the samples' places in between. -/
theorem bookFieldsStandWhereTheTablePutsThem : Obligations.BookFieldsStandWhereTheTablePutsThem := by
  unfold Obligations.BookFieldsStandWhereTheTablePutsThem
  refine fun s serial => ⟨fun none_ => ?_, fun b live => ?_⟩
  · rw [State.bookAnswer, none_]
    rfl
  · intro job sp side
    have spelled : s.bookAnswer serial
        = record b.headFields ++ (places 8 3 b.samples ++ record (b.tailFields s.now)) := by
      rw [State.bookAnswer, live]
      exact bookBytes_eq s.now b
    have head : Holds (s.bookAnswer serial) (layout 0 b.headFields) := by
      rw [spelled]
      exact holds_record [] _ _
    have tail : Holds (s.bookAnswer serial) (layout 55 (b.tailFields s.now)) := by
      have held := holds_record (record b.headFields ++ places 8 3 b.samples) [] (b.tailFields s.now)
      rwa [List.append_nil, List.append_assoc, ← spelled, List.length_append, record_length, places_length] at held
    refine ⟨bookAnswer_length s serial, head.append tail, fun k => ?_⟩
    have size : (record b.headFields).length = 31 := record_length _
    rw [spelled, natAt_append_right (by omega), size, Nat.add_sub_cancel_left,
      natAt_append_left (by rw [places_length]; omega)]
    exact natAt_places 3 b.samples k.isLt

end Sys2Proof.Machine
end

section
/-!
PROOF. The answers other than READ BOOK's, part by part: the layout of every entry, the lengths, and the places at which
the entries stand (R49, R53, R58, R83, R105, R106, R157, R168, R176, R200 to R207).
-/

namespace Sys2Proof.Machine

variable {s : State}

/-! ### Parts of an answer -/

/-- An answer, or an entry, that is one record. -/
theorem Holds.of_fields {answer : List Byte} {fields : List (Nat × Nat × Nat)}
    (spelled : answer = record (fields.map Prod.snd)) (adjacent : layout 0 (fields.map Prod.snd) = fields) :
    Holds answer fields :=
  .of_record (before := []) (after := []) (by rw [List.append_nil]; exact spelled) rfl adjacent

/-- An answer of zeros holds zeros. -/
theorem natAt_of_zeros {answer : List Byte} {n : Nat} (zeros : answer = List.replicate n 0) (o w : Nat) :
    natAt answer o w = 0 := by
  rw [zeros, natAt_replicate_zero]

/-- A field inside a part of an answer is read in the part. -/
theorem natAt_part {answer before part after : List Byte} {start o w : Nat}
    (spelled : answer = before ++ (part ++ after)) (begins : before.length = start) (fits : o + w ≤ part.length) :
    natAt answer (start + o) w = natAt part o w := by
  rw [spelled, natAt_append_right (by omega), begins, Nat.add_sub_cancel_left, natAt_append_left fits]

/-- A number of a list of places inside an answer. -/
theorem natAt_part_places {answer before after : List Byte} {start count width k : Nat} {xs : List Nat}
    (spelled : answer = before ++ (places count width xs ++ after)) (begins : before.length = start)
    (inside : k < count) : natAt answer (start + width * k) width = xs[k]?.getD 0 % 256 ^ width := by
  have fits : width * k + width ≤ (places count width xs).length := by
    rw [places_length, ← Nat.mul_succ]
    exact Nat.mul_le_mul_left width inside
  rw [natAt_part spelled begins fits, natAt_places width xs inside]

/-- A field of an entry is read where the entries before it end. -/
theorem Holds.entry {α : Type} {answer : List Byte} {f : α → List Byte} {size i : Nat} {l : List α} {a : α}
    {fields shifted : List (Nat × Nat × Nat)} (spelled : answer = l.flatMap f)
    (sizes : ∀ a ∈ l, (f a).length = size) (entry : l[i]? = some a) (held : Holds (f a) fields)
    (inside : ∀ field ∈ fields, field.1 + field.2.1 ≤ size)
    (same : shifted = fields.map fun field => (size * i + field.1, field.2)) : Holds answer shifted :=
  .part (fun o w fits => by rw [spelled, natAt_flatMap sizes entry fits]) held inside same

/-! ### The attention cause (R200) -/

theorem Port.attentionCause_none {q : Port}
    (none_ : ∀ i < 9, ¬ (q.latches.getLsbD i = true ∧ q.enables.getLsbD i = true)) : q.attentionCause = 0 := by
  have missing : (List.range 9).find? (fun i => (q.latches &&& q.enables).getLsbD i) = none :=
    List.find?_range_eq_none.2 fun i inside => by
      rw [BitVec.getLsbD_and, Bool.not_eq_true', ← Bool.not_eq_true, Bool.and_eq_true]
      exact none_ i inside
  rw [Port.attentionCause, missing]
  rfl

/-- R200: the priority is the order of the bits, bit 0 first. -/
theorem Port.attentionCause_first {q : Port} {i : Nat} (inside : i < 9)
    (wanted : q.latches.getLsbD i = true ∧ q.enables.getLsbD i = true)
    (first : ∀ j < i, ¬ (q.latches.getLsbD j = true ∧ q.enables.getLsbD j = true)) : q.attentionCause = i + 1 := by
  have found : (List.range 9).find? (fun i => (q.latches &&& q.enables).getLsbD i) = some i :=
    List.find?_range_eq_some.2 ⟨by simpa using wanted, List.mem_range.2 inside, fun j before => by
      rw [BitVec.getLsbD_and, Bool.not_eq_true', ← Bool.not_eq_true, Bool.and_eq_true]
      exact first j before⟩
  rw [Port.attentionCause, found]
  rfl

/-! ### The entries (R49, R83, R105, R106, R157, R206, R207) -/

theorem flagBits_two (a b : Bool) : flagBits [a, b] = flag a + 2 * flag b := by
  simp only [flagBits_cons, flagBits_nil]
  omega

theorem flagBits_three (a b c : Bool) : flagBits [a, b, c] = flag a + 2 * flag b + 4 * flag c := by
  simp only [flagBits_cons, flagBits_nil]
  omega

theorem bytesOfInt_two (x : Int) : bytesOfInt 2 x = bytesOf 2 (x % 65536).toNat := by
  rw [bytesOfInt, BitVec.toNat_ofInt]
  rfl

theorem clampBytes_holds (s : State) (clamp : Nat) :
    let b := (s.carousel.bookIn clamp).bind s.findBook
    Holds (s.clampBytes clamp) [(0, 2, (s.carousel.bookIn clamp).getD 0),
      (2, 1, flag (s.carousel.locked clamp) + 2 * flag (b.any Book.suspect)),
      (3, 1, ((b.bind Book.progress).map Station.code).getD 0)] :=
  .of_fields (by simp [State.clampBytes, record, codeOr, flagBits_two]) rfl

theorem announceEntry_holds {n : Nat} {b : Book} (live : s.findBook n = some b) :
    Holds (s.announceEntry n) [(0, 2, n), (2, 1, b.state.code), (3, 1, b.samples.length)] :=
  .of_fields (by simp [State.announceEntry, record, codeOr, live]) rfl

theorem deliveryEntry_holds {n : Nat} {b : Book} (live : s.findBook n = some b) :
    Holds (s.deliveryEntry n) [(0, 2, n), (2, 1, b.state.code),
      (3, 3, if b.state = .cooling then (b.coolingDeadline.map fun at_ => at_ - s.now).getD 0 else 0)] := by
  refine .of_fields ?_ rfl
  by_cases cooling : b.state = .cooling <;> simp [State.deliveryEntry, record, codeOr, live, cooling]

theorem DueEntry.bytes_holds (e : DueEntry) :
    Holds e.bytes [(0, 2, e.serial), (2, 1, flag e.want), (3, 1, flag e.received)] :=
  .of_fields (by simp [DueEntry.bytes, record]) rfl

theorem RejectEntry.bytes_holds (e : RejectEntry) :
    Holds e.bytes [(0, 2, e.serial), (2, 4, e.jobKey.toNat), (6, 1, e.cause.code), (7, 1, e.place.code)] :=
  .of_fields (by simp [RejectEntry.bytes, record]) rfl

/-- R206: the fields of a lift before its books. -/
theorem liftBytes_eq (now : Nat) (l : Lift) : liftBytes now l = record [(1, l.number), (1, l.state.code),
    (1, l.books.length), (1, flag l.overdue), (3, l.height), (3, l.remaining now)] ++ places 16 2 l.books := by
  simp [liftBytes, record]

theorem liftBytes_holds (now : Nat) (l : Lift) : Holds (liftBytes now l) [(0, 1, l.number), (1, 1, l.state.code),
    (2, 1, l.books.length), (3, 1, flag l.overdue), (4, 3, l.height), (7, 3, l.remaining now)] :=
  .of_record (before := []) (after := places 16 2 l.books) (liftBytes_eq now l) rfl rfl

theorem liftBytes_books (now : Nat) (l : Lift) (k : Fin 16) :
    natAt (liftBytes now l) (10 + 2 * k) 2 = l.books[k.val]?.getD 0 % 256 ^ 2 := by
  have spelled := liftBytes_eq now l
  rw [← List.append_nil (places 16 2 l.books)] at spelled
  exact natAt_part_places spelled (record_length _) k.isLt

theorem liftBytes_length (now : Nat) (l : Lift) : (liftBytes now l).length = 42 := by
  simp [liftBytes_eq, record_length]

/-! ### The parts of the configuration (R58) -/

theorem Geometry.bytes_holds (g : Geometry) : Holds g.bytes [(0, 1, g.clampCount), (1, 2, g.pitchCounts),
    (3, 3, g.pitchLength), (6, 2, g.homePhase), (8, 2, g.homeTolerance), (10, 2, g.reverseTolerance),
    (12, 1, g.capacity), (13, 1, flag (decide (g.supplyAction = .reset)))] :=
  .of_fields (by simp [Geometry.bytes, record, beq_eq_decide]) rfl

theorem StationPlace.bytes_holds (x : StationPlace) : Holds x.bytes [(0, 1, x.offset), (1, 2, x.phase)] :=
  .of_fields (by simp [StationPlace.bytes, record]) rfl

theorem Conditioner.bytes_holds (x : Conditioner) : Holds x.bytes [(0, 1, x.edge.code), (1, 1, x.debounce)] :=
  .of_fields (by simp [Conditioner.bytes, record]) rfl

/-- R145: the glue channels have no start and no length. -/
theorem channelBytes_holds (s : State) (c : Fin 8) :
    let fixed (n : Nat) : Nat := if c = 2 ∨ c = 3 then 0 else n
    Holds (channelBytes s c) [(0, 2, fixed s.cams[c].start), (2, 2, fixed s.cams[c].length),
      (4, 1, flag s.cams[c].activeLow), (5, 1, flag s.cams[c].forced)] := by
  refine .of_fields ?_ rfl
  unfold channelBytes
  rw [isGlueChannel_eq]
  by_cases glue : c = 2 ∨ c = 3
  · rw [if_pos (decide_eq_true glue)]
    simp [record, glue, bytesOf_zero]
  · rw [if_neg (by simpa using glue)]
    simp [record, glue]

theorem JobClass.bytes_holds (c : JobClass) : Holds c.bytes [(0, 2, c.millDepth), (2, 2, c.hingeOffset),
    (4, 2, c.glueAllow), (6, 2, c.nipSqueeze), (8, 2, c.spineMargin), (10, 2, c.sideMargin), (12, 1, flag c.sideUsed),
    (13, 3, c.coolBase), (16, 2, c.coolPerMm)] :=
  .of_fields (by simp [JobClass.bytes, record]) rfl

theorem GaugeCal.bytes_holds (g : GaugeCal) : Holds g.bytes [(0, 1, flag (decide (g.sign = .subtract))),
    (1, 1, g.shift), (2, 2, (g.offset % 65536).toNat), (4, 2, g.spreadLimit)] :=
  .of_fields (by simp [GaugeCal.bytes, record, beq_eq_decide, bytesOfInt_two]) rfl

theorem Pot.configBytes_holds (q : Pot) : Holds q.configBytes [(0, 2, q.low), (2, 2, q.high), (4, 1, q.hysteresis),
    (5, 2, (q.offset % 65536).toNat), (7, 1, q.shift), (8, 1, flag q.enabled)] :=
  .of_fields (by simp [Pot.configBytes, record, bytesOfInt_two]) rfl

theorem Timers.bytes_holds (t : Timers) : Holds t.bytes [(0, 2, t.sealIdle), (2, 2, t.standstill), (4, 2, t.glueSettle),
    (6, 2, t.heatUp), (8, 2, t.stale), (10, 2, t.openLimit), (12, 2, t.liftWindow), (14, 3, t.trimTimeout)] :=
  .of_fields (by simp [Timers.bytes, record]) rfl

theorem LiftLimits.bytes_holds (l : LiftLimits) :
    Holds l.bytes [(0, 1, l.maxCount), (1, 3, l.maxHeight), (4, 2, l.tolerance)] :=
  .of_fields (by simp [LiftLimits.bytes, record]) rfl

/-- R58: READ CONFIG's answer, cut into its parts. -/
def State.configParts (s : State) : List (List Byte) :=
  [s.clock.geometry.bytes, s.clock.stations.toList.flatMap StationPlace.bytes,
    s.clock.sensors.toList.flatMap Conditioner.bytes, (List.finRange 8).flatMap (channelBytes s),
    s.setpoints.classes.toList.flatMap JobClass.bytes, s.setpoints.gauge.bytes, s.glue.spine.configBytes,
    s.glue.side.configBytes, s.timers.bytes, s.lifting.limits.bytes]

/-- R58 and R207: the sizes of the parts of READ CONFIG's answer. -/
def configSizes : List Nat := [14, 21, 8, 48, 144, 6, 9, 9, 17, 6]

theorem configAnswer_eq (s : State) : s.configAnswer = s.configParts.flatten := by
  simp [State.configAnswer, State.configParts]

theorem channelBytes_length (s : State) (c : Fin 8) : (channelBytes s c).length = 6 := by
  unfold channelBytes
  split <;> simp

theorem configParts_length (s : State) : s.configParts.map List.length = configSizes := by
  simp only [State.configParts, List.map_cons, List.map_nil]
  rw [length_flatMap_of_size (f := StationPlace.bytes) (size := 3) fun _ _ => by simp [StationPlace.bytes],
    length_flatMap_of_size (f := Conditioner.bytes) (size := 2) fun _ _ => by simp [Conditioner.bytes],
    length_flatMap_of_size (f := channelBytes s) (size := 6) fun c _ => channelBytes_length s c,
    length_flatMap_of_size (f := JobClass.bytes) (size := 18) fun _ _ => by simp [JobClass.bytes]]
  simp [Geometry.bytes, GaugeCal.bytes, Pot.configBytes, Timers.bytes, LiftLimits.bytes, bytesOfInt, configSizes]

theorem configAnswer_length (s : State) : s.configAnswer.length = 282 := by
  rw [configAnswer_eq, List.length_flatten, configParts_length]
  rfl

/-- R58: a part of the configuration is read where the parts before it end. -/
theorem natAt_configAnswer (i : Nat) {part : List Byte} {start size o w : Nat} (here : s.configParts[i]? = some part)
    (begins : (configSizes.take i).sum = start) (spans : configSizes[i]? = some size) (fits : o + w ≤ size) :
    natAt s.configAnswer (start + o) w = natAt part o w := by
  obtain ⟨inside, rfl⟩ := List.getElem?_eq_some_iff.1 here
  have spelled : s.configAnswer = (s.configParts.take i).flatten
      ++ (s.configParts[i] ++ (s.configParts.drop (i + 1)).flatten) := by
    rw [configAnswer_eq, ← List.flatten_cons, ← List.flatten_append, List.getElem_cons_drop, List.take_append_drop]
  refine natAt_part spelled ?_ ?_
  · rw [List.length_flatten, List.map_take, configParts_length, begins]
  · have length : some s.configParts[i].length = some size := by
      rw [← spans, ← configParts_length, List.getElem?_map, here, Option.map_some]
    rwa [Option.some.inj length]

theorem Holds.config (i : Nat) {part : List Byte} {start size : Nat} {fields shifted : List (Nat × Nat × Nat)}
    (here : s.configParts[i]? = some part) (held : Holds part fields)
    (begins : (configSizes.take i).sum = start) (spans : configSizes[i]? = some size)
    (inside : ∀ field ∈ fields, field.1 + field.2.1 ≤ size)
    (same : shifted = fields.map fun field => (start + field.1, field.2)) : Holds s.configAnswer shifted :=
  .part (fun _ _ fits => natAt_configAnswer i here begins spans fits) held inside same

/-! ### The whole answers -/

theorem statusAnswer_holds (s : State) :
    let flags (p : Pot) := flag p.belowLow + 2 * flag p.aboveHigh + 4 * flag p.enabled
    Holds s.statusAnswer [(0, 1, s.clock.mode.name.code), (1, 1, s.clock.mode.holdKindCode),
      (2, 1, s.clock.mode.returnCode), (3, 1, (s.stoppage.haltCause.map HaltCause.code).getD 0),
      (4, 1, flag s.stoppage.furtherCause), (5, 1, s.stoppage.resetCause.code),
      (6, 1, s.glue.spine.state.code), (7, 2, s.glue.spine.filtered), (9, 1, flags s.glue.spine),
      (10, 1, s.glue.side.state.code), (11, 2, s.glue.side.filtered), (13, 1, flags s.glue.side),
      (14, 1, flag s.glue.ready), (15, 1, s.occupancy), (16, 1, s.clock.geometry.capacity),
      (17, 1, s.books.announceQ.length), (18, 1, s.delivery.length), (19, 1, s.lifting.lifts.length),
      (20, 1, s.books.rejects.length), (21, 1, flag s.books.overrun),
      (22, 4, s.books.admitted.toNat), (26, 4, s.books.done.toNat), (30, 4, s.books.rejected.toNat),
      (34, 4, s.books.withdrawn.toNat), (38, 4, s.clock.pitchCounter.toNat),
      (42, 1, s.clock.clampIndex), (43, 2, s.clock.phase), (45, 1, s.suspectCount)] := by
  intro flags
  refine .of_fields ?_ rfl
  unfold State.statusAnswer potStatusBytes
  rw [flagBits_three, flagBits_three]
  simp only [List.map_cons, List.map_nil, record_cons, record_nil, List.append_assoc]
  simp only [List.append_nil, codeOr, flags]

theorem identAnswer_holds (s : State) (p : PortId) : Holds (s.identAnswer p)
    [(0, 2, 0x2416), (2, 1, 0x01), (3, 1, p.val), (4, 1, s.ports[p].role.code)] :=
  .of_fields (by simp [State.identAnswer, record, Config.deviceCode, Config.revision]) rfl

theorem resultAnswer_holds (q : Port) :
    Holds q.resultAnswer [(0, 1, q.result.code), (1, 2, q.subject.toNat), (3, 1, q.lastCode.toNat)] :=
  .of_fields (by simp [Port.resultAnswer, record, bytesOf]) rfl

theorem attentionAnswer_holds (q : Port) : Holds q.attentionAnswer [(0, 1, q.attentionCause), (1, 2, q.latches.toNat),
    (3, 2, q.enables.toNat), (5, 1, q.attnMode.code)] :=
  .of_fields (by simp [Port.attentionAnswer, record]) rfl

/-- R83: the clamp of an entry of READ CLAMP MAP. -/
theorem clampMapAnswer_holds {start i : Nat} (inside : i < s.clock.geometry.clampCount) :
    let clamp := (start + i) % s.clock.geometry.clampCount
    let b := (s.carousel.bookIn clamp).bind s.findBook
    Holds (s.clampMapAnswer start) [(4 * i, 2, (s.carousel.bookIn clamp).getD 0),
      (4 * i + 2, 1, flag (s.carousel.locked clamp) + 2 * flag (b.any Book.suspect)),
      (4 * i + 3, 1, ((b.bind Book.progress).map Station.code).getD 0)] := by
  have entry : (List.range s.clock.geometry.clampCount)[i]? = some i := List.getElem?_range inside
  have held := clampBytes_holds s ((start + i) % s.clock.geometry.clampCount)
  rw [← Nat.mod_add_mod] at held ⊢
  exact .entry (size := 4) rfl (fun i _ => by simp [State.clampBytes]) entry held (by simp) rfl

theorem rejectsAnswer_holds {start i : Nat} {e : RejectEntry} (entry : s.books.rejects[start + i]? = some e) :
    Holds (s.rejectsAnswer start) [(2 + 8 * i, 2, e.serial), (4 + 8 * i, 4, e.jobKey.toNat),
      (8 + 8 * i, 1, e.cause.code), (9 + 8 * i, 1, e.place.code)] := by
  have dropped : (s.books.rejects.drop start)[i]? = some e := List.getElem?_drop.trans entry
  have sizes : ∀ a ∈ s.books.rejects.drop start, (RejectEntry.bytes a).length = 8 := fun a _ => by
    simp [RejectEntry.bytes]
  refine .part (start := 2 + 8 * i) (size := 8) (fun o w fits => ?_) e.bytes_holds (by simp) ?_
  · rw [State.rejectsAnswer, natAt_append_right (by simp; omega), ← natAt_flatMap sizes dropped fits]
    congr 1
    simp
    omega
  · simp only [List.map_cons, List.map_nil, List.cons.injEq, Prod.mk.injEq, and_true]
    omega

/-- R206: the four places of READ LIFTS. -/
def State.liftPlaces (s : State) : List (List Byte) :=
  (s.lifting.lifts.map (liftBytes s.now) ++ List.replicate 4 (List.replicate 42 0)).take 4

theorem liftsAnswer_eq (s : State) : s.liftsAnswer = s.liftPlaces.flatMap id := List.flatMap_id.symm

theorem liftPlaces_size (s : State) : ∀ x ∈ s.liftPlaces, (id x).length = 42 := fun x mem => by
  obtain made | zeros := List.mem_append.1 (List.mem_of_mem_take mem)
  · obtain ⟨l, -, rfl⟩ := List.mem_map.1 made
    exact liftBytes_length s.now l
  · rw [List.eq_of_mem_replicate zeros]
    rfl

theorem liftPlaces_get (s : State) (i : Fin 4) :
    s.liftPlaces[i.val]? = some (((s.lifting.lifts[i.val]?).map (liftBytes s.now)).getD (List.replicate 42 0)) := by
  rw [State.liftPlaces, List.getElem?_take_of_lt i.isLt]
  cases lift : s.lifting.lifts[i.val]? with
  | none =>
    have short := List.getElem?_eq_none_iff.1 lift
    rw [List.getElem?_append_right (by simpa using short), List.getElem?_replicate, if_pos (by simp; omega)]
    rfl
  | some l =>
    have inside := (List.getElem?_eq_some_iff.1 lift).1
    rw [List.getElem?_append_left (by simpa using inside), List.getElem?_map, lift]
    rfl

theorem liftsAnswer_length (s : State) : s.liftsAnswer.length = 168 := by
  rw [liftsAnswer_eq, length_flatMap_of_size (liftPlaces_size s)]
  simp [State.liftPlaces]

/-- R206: a place of READ LIFTS is the lift's entry, or zeros past the end of the list. -/
theorem natAt_liftsAnswer (s : State) (i : Fin 4) {o w : Nat} (fits : o + w ≤ 42) :
    natAt s.liftsAnswer (42 * i + o) w
      = natAt (((s.lifting.lifts[i.val]?).map (liftBytes s.now)).getD (List.replicate 42 0)) o w := by
  rw [liftsAnswer_eq]
  exact natAt_flatMap (liftPlaces_size s) (liftPlaces_get s i) fits

theorem nextLiftAnswer_none (none_ : ∀ l ∈ s.lifting.lifts, l.state ≠ .closed) :
    s.nextLiftAnswer = List.replicate 52 0 := by
  have missing : s.lifting.oldestClosed = none := List.find?_eq_none.2 fun l mem => by simpa using none_ l mem
  unfold State.nextLiftAnswer
  simp only [missing]

/-- R168 and R206: NEXT LIFT's answer for the oldest CLOSED lift. -/
theorem nextLiftAnswer_some {before after : List Lift} {l : Lift} (list : s.lifting.lifts = before ++ l :: after)
    (others : ∀ m ∈ before, m.state ≠ .closed) (closed : l.state = .closed) :
    let r := l.books.head?.bind s.findBook
    let job := r.bind Book.job
    let sp := r.bind Book.setPoints
    s.nextLiftAnswer = record [(1, l.number), (1, l.books.length)] ++ (places 16 2 l.books
      ++ record [(3, (job.map Job.height).getD 0), (3, (job.map Job.width).getD 0),
        (3, (sp.map SetPoints.headTrim).getD 0), (3, (sp.map SetPoints.footTrim).getD 0),
        (3, (sp.map SetPoints.foreTrim).getD 0), (3, l.height)]) := by
  have found : s.lifting.oldestClosed = some l :=
    List.find?_eq_some_iff_append.2 ⟨by simpa using closed, before, after, list, fun m mem => by
      simpa using others m mem⟩
  intro r job sp
  unfold State.nextLiftAnswer
  simp only [found, codeOr, record_cons, record_nil, List.append_assoc, List.append_nil, r, job, sp]

/-- R168 and R206: the fields of NEXT LIFT after the books. -/
theorem nextLiftAnswer_holds {before after : List Lift} {l : Lift} (list : s.lifting.lifts = before ++ l :: after)
    (others : ∀ m ∈ before, m.state ≠ .closed) (closed : l.state = .closed) :
    let r := l.books.head?.bind s.findBook
    let job := r.bind Book.job
    let sp := r.bind Book.setPoints
    Holds s.nextLiftAnswer [(34, 3, (job.map Job.height).getD 0), (37, 3, (job.map Job.width).getD 0),
      (40, 3, (sp.map SetPoints.headTrim).getD 0), (43, 3, (sp.map SetPoints.footTrim).getD 0),
      (46, 3, (sp.map SetPoints.foreTrim).getD 0), (49, 3, l.height)] := by
  intro r job sp
  refine .of_record (before := record [(1, l.number), (1, l.books.length)] ++ places 16 2 l.books) (after := [])
    ((nextLiftAnswer_some list others closed).trans ?_) ?_ rfl
  · rw [List.append_nil, List.append_assoc]
    rfl
  · rw [List.length_append, record_length, places_length]
    rfl

theorem nextDueAnswer_none (none_ : ∀ e ∈ s.due, e.received = true) : s.nextDueAnswer = List.replicate 22 0 := by
  have missing : s.nextDueEntry = none := List.find?_eq_none.2 fun e mem => by simpa using none_ e mem
  unfold State.nextDueAnswer
  simp only [missing]

/-- R105 and R207: NEXT DUE's answer for the oldest entry without a report. -/
theorem nextDueAnswer_holds {before after : List DueEntry} {e : DueEntry} {b : Book}
    (list : s.due = before ++ e :: after) (others : ∀ d ∈ before, d.received = true) (open_ : e.received = false)
    (live : s.findBook e.serial = some b) :
    let sp (f : SetPoints → Nat) : Nat := (b.setPoints.map f).getD 0
    Holds s.nextDueAnswer [(0, 2, e.serial), (2, 4, b.expectedCover.toNat), (6, 1, flag e.want),
      (7, 3, (b.job.map Job.coverWidth).getD 0), (10, 3, sp SetPoints.outer1), (13, 3, sp SetPoints.inner1),
      (16, 3, sp SetPoints.inner2), (19, 3, sp SetPoints.outer2)] := by
  have found : s.nextDueEntry = some e :=
    List.find?_eq_some_iff_append.2 ⟨by simpa using open_, before, after, list, fun d mem => by
      simpa using others d mem⟩
  intro sp
  refine .of_fields ?_ rfl
  unfold State.nextDueAnswer
  simp only [found, live, codeOr, Option.bind_some, Option.map_some, Option.getD_some, List.map_cons, List.map_nil,
    record_cons, record_nil, List.append_assoc, List.append_nil, sp]

/-- R202: the lengths of the answers. -/
theorem answers_length (s : State) (p : PortId) :
    (s.identAnswer p).length = 5 ∧ s.statusAnswer.length = 46 ∧ s.ports[p].resultAnswer.length = 4
    ∧ s.ports[p].attentionAnswer.length = 6 ∧ (∀ n, (s.clampMapAnswer n).length = 4 * s.clock.geometry.clampCount)
    ∧ s.liftsAnswer.length = 168 ∧ s.nextDueAnswer.length = 22 ∧ s.nextLiftAnswer.length = 52 := by
  refine ⟨?_, ?_, ?_, ?_, fun n => ?_, ?_, ?_, ?_⟩
  · simp [State.identAnswer]
  · unfold State.statusAnswer potStatusBytes
    simp only [List.length_append, bytesOf_length]
  · simp [Port.resultAnswer]
  · simp [Port.attentionAnswer]
  · rw [State.clampMapAnswer, length_flatMap_of_size (size := 4) fun i _ => by simp [State.clampBytes],
      List.length_range]
  · exact liftsAnswer_length s
  · unfold State.nextDueAnswer
    split <;> simp
  · unfold State.nextLiftAnswer
    split <;> simp

theorem queues_length (s : State) (n : Nat) :
    (s.rejectsAnswer n).length = 2 + 8 * (s.books.rejects.length - n)
    ∧ (s.queueAnswer 0 n).length = 4 * (s.books.announceQ.length - n)
    ∧ (s.queueAnswer 1 n).length = 6 * (s.delivery.length - n)
    ∧ (s.queueAnswer 2 n).length = 4 * (s.due.length - n) := by
  refine ⟨?_, ?_, ?_, ?_⟩
  · rw [State.rejectsAnswer, List.length_append,
      length_flatMap_of_size (size := 8) fun e _ => by simp [RejectEntry.bytes], List.length_drop]
    simp
  · exact (length_flatMap_of_size (size := 4) fun n _ => by simp [State.announceEntry]).trans (by rw [List.length_drop])
  · exact (length_flatMap_of_size (size := 6) fun n _ => by simp [State.deliveryEntry]).trans (by rw [List.length_drop])
  · exact (length_flatMap_of_size (size := 4) fun e _ => by simp [DueEntry.bytes]).trans (by rw [List.length_drop])

theorem queueAnswer_none (s : State) {queue : Nat} (n : Nat) (unnamed : 3 ≤ queue) : s.queueAnswer queue n = [] := by
  obtain ⟨k, rfl⟩ := Nat.exists_eq_add_of_le' unnamed
  rfl

theorem suspectCount_eq (s : State) :
    s.suspectCount = (s.books.slots.toList.filter fun slot => slot.any Book.suspect).length := by
  rw [State.suspectCount, BookTable.live, List.countP_filterMap, List.countP_eq_length_filter]
  refine congrArg (fun f => (s.books.slots.toList.filter f).length) (funext fun slot => ?_)
  cases slot <;> rfl

theorem Pot.belowLow_iff (q : Pot) : q.belowLow = true ↔ q.state ≠ .unknown ∧ q.filtered < q.low := by
  simp [Pot.belowLow]

theorem Pot.aboveHigh_iff (q : Pot) : q.aboveHigh = true ↔ q.state ≠ .unknown ∧ q.high < q.filtered := by
  simp [Pot.aboveHigh]

/-- R206: the fields of a lift at its place. -/
theorem liftsAnswer_holds {i : Fin 4} {l : Lift} (lift : s.lifting.lifts[i.val]? = some l) :
    Holds s.liftsAnswer [(42 * i, 1, l.number), (42 * i + 1, 1, l.state.code),
      (42 * i + 2, 1, l.books.length), (42 * i + 3, 1, flag l.overdue), (42 * i + 4, 3, l.height),
      (42 * i + 7, 3, l.remaining s.now)] := by
  refine .part (start := 42 * i) (size := 42) (fun o w fits => ?_) (liftBytes_holds s.now l) (by simp) rfl
  rw [natAt_liftsAnswer s i fits, lift]
  rfl

theorem natAt_liftsAnswer_books {i : Fin 4} {l : Lift} (lift : s.lifting.lifts[i.val]? = some l) (k : Fin 16) :
    natAt s.liftsAnswer (42 * i + 10 + 2 * k) 2 = l.books[k.val]?.getD 0 % 256 ^ 2 := by
  rw [Nat.add_assoc, natAt_liftsAnswer s i (by omega), lift]
  exact liftBytes_books s.now l k

/-- R58: the fields of the configuration that stand once. -/
theorem configAnswer_holds (s : State) :
    let g := s.clock.geometry
    let gauge := s.setpoints.gauge
    let t := s.timers
    let l := s.lifting.limits
    Holds s.configAnswer [(0, 1, g.clampCount), (1, 2, g.pitchCounts), (3, 3, g.pitchLength), (6, 2, g.homePhase),
      (8, 2, g.homeTolerance), (10, 2, g.reverseTolerance), (12, 1, g.capacity),
      (13, 1, flag (decide (g.supplyAction = .reset))),
      (235, 1, flag (decide (gauge.sign = .subtract))), (236, 1, gauge.shift), (237, 2, (gauge.offset % 65536).toNat),
      (239, 2, gauge.spreadLimit),
      (259, 2, t.sealIdle), (261, 2, t.standstill), (263, 2, t.glueSettle), (265, 2, t.heatUp), (267, 2, t.stale),
      (269, 2, t.openLimit), (271, 2, t.liftWindow), (273, 3, t.trimTimeout),
      (276, 1, l.maxCount), (277, 3, l.maxHeight), (280, 2, l.tolerance)] := by
  intro g gauge t l
  have geometry := Holds.config (s := s) 0 rfl g.bytes_holds rfl rfl (by simp) rfl
  have calibration := Holds.config (s := s) 5 rfl gauge.bytes_holds rfl rfl (by simp) rfl
  have timers := Holds.config (s := s) 8 rfl t.bytes_holds rfl rfl (by simp) rfl
  have limits := Holds.config (s := s) 9 rfl l.bytes_holds rfl rfl (by simp) rfl
  exact geometry.append (calibration.append (timers.append limits))

/-- R58: an entry of one of the configuration's parts. -/
theorem Holds.configEntry {α : Type} {f : α → List Byte} {l : List α} {a : α} (part i : Nat)
    {at_ start size count : Nat}
    {fields shifted : List (Nat × Nat × Nat)} (here : s.configParts[part]? = some (l.flatMap f))
    (begins : (configSizes.take part).sum = start) (spans : configSizes[part]? = some (size * count))
    (sizes : ∀ a ∈ l, (f a).length = size) (entry : l[i]? = some a) (inside : i < count) (held : Holds (f a) fields)
    (fits : ∀ field ∈ fields, field.1 + field.2.1 ≤ size) (same : at_ = start + size * i)
    (same' : shifted = fields.map fun field => (at_ + field.1, field.2)) : Holds s.configAnswer shifted := by
  subst same
  refine .part (size := size) (fun o w narrow => ?_) held fits same'
  have room : size * i + o + w ≤ size * count := by
    have next := Nat.mul_le_mul_left size inside
    rw [Nat.mul_succ] at next
    omega
  rw [Nat.add_assoc, natAt_configAnswer part here begins spans room, natAt_flatMap sizes entry narrow]

/-- Settles O10: the codes by their tables, the lengths by the entries' sizes, the fields answer by answer. -/
theorem answersHaveTheTableLayout : Obligations.AnswersHaveTheTableLayout := by
  unfold Obligations.AnswersHaveTheTableLayout
  intro holds
  refine ⟨⟨rfl, rfl, fun ret => ⟨by cases ret <;> rfl, by cases ret <;> rfl⟩, fun kind => ⟨by cases kind <;> rfl,
    by cases kind <;> rfl⟩, fun mode other => ?_, rfl, rfl, rfl, rfl, rfl, rfl, rfl, rfl, rfl, rfl, rfl, rfl, rfl⟩,
    fun p => ⟨p.belowLow_iff, p.aboveHigh_iff⟩, suspectCount_eq, fun s p => ?_, statusAnswer_holds, fun s p => ?_,
    fun s start i inside => clampMapAnswer_holds inside,
    fun s start i n b live => ⟨fun queued => ?_, fun queued => ?_⟩, fun s start i e queued => ?_,
    fun s start i => ⟨?_, fun e entry => rejectsAnswer_holds entry⟩, fun s i => ⟨fun none_ => ?_, fun l lift => ?_⟩,
    fun s => ⟨fun none_ => natAt_of_zeros (nextLiftAnswer_none none_) 0 52,
      fun before l after list others closed => ?_⟩,
    fun s => ⟨fun none_ => natAt_of_zeros (nextDueAnswer_none none_) 0 22,
      fun before e after b list others open_ live => nextDueAnswer_holds list others open_ live⟩, fun s => ?_⟩
  · cases mode with
    | hold kind ret => exact absurd rfl other
    | setup => exact ⟨rfl, rfl⟩
    | homing => exact ⟨rfl, rfl⟩
    | run => exact ⟨rfl, rfl⟩
    | runout => exact ⟨rfl, rfl⟩
    | halted => exact ⟨rfl, rfl⟩
  · obtain ⟨ident, status, result, attention, clampMap, lifts, nextDue, nextLift⟩ := answers_length s p
    exact ⟨ident, status, result, attention, bookAnswer_length s, clampMap, lifts, configAnswer_length s, nextDue,
      nextLift, fun n => (queues_length s n).1, fun n => (queues_length s n).2.1, fun n => (queues_length s n).2.2.1,
      fun n => (queues_length s n).2.2.2, fun queue n unnamed => queueAnswer_none s n unnamed⟩
  · intro q wanted
    refine ⟨identAnswer_holds s p, resultAnswer_holds q, ?_, fun none_ => ?_, fun i inside wanted_ first => ?_⟩
    · exact (List.forall_mem_cons.1 (attentionAnswer_holds q)).2
    · have cause := (List.forall_mem_cons.1 (attentionAnswer_holds q)).1
      rwa [Port.attentionCause_none none_] at cause
    · have cause := (List.forall_mem_cons.1 (attentionAnswer_holds q)).1
      rw [Port.attentionCause_first inside wanted_ first] at cause
      exact cause.trans (Nat.mod_eq_of_lt (by simp; omega))
  · exact Holds.entry rfl (fun n _ => by simp [State.announceEntry]) (List.getElem?_drop.trans queued)
      (announceEntry_holds live) (by simp) rfl
  · exact Holds.entry rfl (fun n _ => by simp [State.deliveryEntry]) (List.getElem?_drop.trans queued)
      (deliveryEntry_holds live) (by simp) rfl
  · exact Holds.entry rfl (fun n _ => by simp [DueEntry.bytes]) (List.getElem?_drop.trans queued)
      e.bytes_holds (by simp) rfl
  · exact Holds.of_record (before := []) (after := (s.books.rejects.drop start).flatMap RejectEntry.bytes)
      (by simp [State.rejectsAnswer, record]) rfl rfl
  · have zeros := natAt_liftsAnswer s i (o := 0) (w := 42) le_rfl
    rw [none_] at zeros
    exact zeros.trans (natAt_replicate_zero 42 0 42)
  · intro running
    have remaining : l.remaining s.now = match l.state with
        | .opened => running l.windowTimer
        | .dispatched => running l.trimTimer
        | .closed => 0 := by
      unfold Lift.remaining
      cases l.state <;> rfl
    refine ⟨?_, fun k => Holds.cons (natAt_liftsAnswer_books lift k) .nil⟩
    have held := liftsAnswer_holds lift
    rw [remaining] at held
    exact held
  · have spelled := nextLiftAnswer_some list others closed
    have tail := nextLiftAnswer_holds list others closed
    simp only [Holds, List.forall_mem_cons] at tail
    obtain ⟨height, width, head, foot, fore, stack, -⟩ := tail
    refine ⟨fun k => Holds.cons (natAt_part_places spelled (record_length _) k.isLt) .nil, ?_,
      fun n r job sp first live job_ sp_ => ?_⟩
    · have number := Holds.of_record (before := []) (start := 0) (fields := [(0, 1, l.number), (1, 1, l.books.length)])
        spelled rfl rfl
      exact number.append (.cons stack .nil)
    · simp only [first, Option.bind_some, live, job_, sp_, Option.map_some, Option.getD_some] at height width head
      simp only [first, Option.bind_some, live, sp_, Option.map_some, Option.getD_some] at foot fore
      exact Holds.cons height (.cons width (.cons head (.cons foot (.cons fore .nil))))
  · refine ⟨configAnswer_holds s, fun i => ?_, fun i => ?_, fun c => ?_, fun k => ?_, fun id => ?_⟩
    · exact Holds.configEntry 1 i (start := 14) (size := 3) (count := 7) rfl rfl rfl
        (fun _ _ => by simp [StationPlace.bytes]) (by simp) i.isLt (s.clock.stations[i]).bytes_holds (by simp) rfl
        (by simp; omega)
    · exact Holds.configEntry 2 i (start := 35) (size := 2) (count := 4) rfl rfl rfl
        (fun _ _ => by simp [Conditioner.bytes]) (by simp) i.isLt (s.clock.sensors[i]).bytes_holds (by simp) rfl
        (by simp; omega)
    · exact Holds.configEntry 3 c (start := 43) (size := 6) (count := 8) rfl rfl rfl
        (fun c _ => channelBytes_length s c) (by simp) c.isLt (channelBytes_holds s c) (by simp) rfl (by simp; omega)
    · exact Holds.configEntry 4 k (start := 91) (size := 18) (count := 8) rfl rfl rfl
        (fun _ _ => by simp [JobClass.bytes]) (by simp) k.isLt (s.setpoints.classes[k]).bytes_holds (by simp) rfl
        (by simp; omega)
    · cases id with
      | spine => exact Holds.config 6 rfl (Pot.configBytes_holds s.glue.spine) rfl rfl (by simp) rfl
      | side => exact Holds.config 7 rfl (Pot.configBytes_holds s.glue.side) rfl rfl (by simp) rfl

end Sys2Proof.Machine
end

section
/-!
PROOF. The frame of a command is read back as that command, with every operand (R190 to R192, R202).
-/

namespace Sys2Proof.Machine

variable {p : PortId} {code : Byte} {args : List Byte} {partialByte : Bool} {n : Nat}

/-! ### Which frames err, by their shape (R191, R192) -/

theorem isFrameError_unknown (shape : frameShape code = none) : isFrameError (code :: args) partialByte = true := by
  simp only [isFrameError, shape]

theorem isFrameError_read (shape : frameShape code = some (.read n)) :
    isFrameError (code :: args) partialByte = decide (args.length < n) := by
  simp only [isFrameError, shape]

theorem isFrameError_takeReject (shape : frameShape code = some .takeReject) :
    isFrameError (code :: args) partialByte = (partialByte && decide (8 ≤ args.length)) := by
  simp only [isFrameError, shape]

theorem isFrameError_action (shape : frameShape code = some (.action n)) :
    isFrameError (code :: args) partialByte = (partialByte || args.length != n) := by
  simp only [isFrameError, shape]

theorem isFrameError_caliper (count : Byte) (shape : frameShape code = some .caliper) :
    isFrameError (code :: count :: args) partialByte = (partialByte || args.length != 3 * count.toNat) := by
  simp only [isFrameError, shape]

theorem isFrameError_caliper_nil (shape : frameShape code = some .caliper) :
    isFrameError [code] partialByte = true := by
  simp only [isFrameError, shape]

/-! ### Decoding a frame that does not err -/

theorem decodeFrame_of_error {bytes : List Byte} (err : isFrameError bytes partialByte = true) :
    decodeFrame p bytes partialByte = some (.frameError p bytes partialByte) :=
  if_pos err

theorem decodeFrame_of_fine (fine : isFrameError (code :: args) partialByte = false) :
    decodeFrame p (code :: args) partialByte = decodeCommand p code args :=
  if_neg (by rw [fine]; exact Bool.false_ne_true)

theorem decodeFrame_read (shape : frameShape code = some (.read n)) (length : args.length = n) :
    decodeFrame p (code :: args) partialByte = decodeCommand p code args :=
  decodeFrame_of_fine ((isFrameError_read shape).trans (by simp [length]))

theorem decodeFrame_action (shape : frameShape code = some (.action n)) (length : args.length = n) :
    decodeFrame p (code :: args) false = decodeCommand p code args :=
  decodeFrame_of_fine ((isFrameError_action shape).trans (by simp [length]))

/-! ### Operands read back -/

theorem natAt_cons_succ (b : Byte) (rest : List Byte) (o w : Nat) : natAt (b :: rest) (o + 1) w = natAt rest o w := rfl

theorem ofNat_natAt_byte (b : Byte) (rest : List Byte) : BitVec.ofNat 8 (natAt (b :: rest) 0 1) = b := by
  simp [natAt, natOf]

theorem byte_eq_bytesOf (b : Byte) : [b] = bytesOf 1 b.toNat := by
  simp [bytesOf]

/-- An operand is read back from the field that holds it. -/
theorem ofNat_natAt {m w o : Nat} (v : BitVec m) (field : natAt args o w = v.toNat % 256 ^ w) (width : m = 8 * w) :
    BitVec.ofNat m (natAt args o w) = v := by
  rw [field, ← natOf_bytesOf]
  exact ofNat_natOf_bytesOf v width

theorem ofNat_natAt_bytesOf {m w : Nat} (width : m = 8 * w) (v : BitVec m) :
    BitVec.ofNat m (natAt (bytesOf w v.toNat) 0 w) = v :=
  ofNat_natAt v (natAt_bytesOf w v.toNat) width

/-- R202: the samples of a CALIPER frame. -/
theorem samplesOf_flatMap (samples : List Word24) :
    samplesOf (samples.flatMap fun x => bytesOf 3 x.toNat) = samples := by
  induction samples with
  | nil => rfl
  | cons x rest ih =>
    have head : BitVec.ofNat 24 (natOf (bytesOf 3 x.toNat)) = x := ofNat_natOf_bytesOf x rfl
    exact congrArg₂ List.cons head ih

theorem samples_bytes_length (samples : List Word24) :
    (samples.flatMap fun x => bytesOf 3 x.toNat).length = 3 * samples.length :=
  length_flatMap_of_size fun x _ => bytesOf_length 3 x.toNat

theorem decodeFrame_caliper {samples : List Word24} (few : samples.length < 256) :
    decodeFrame p (Code.caliper :: BitVec.ofNat 8 samples.length :: samples.flatMap fun x => bytesOf 3 x.toNat) false
      = some (.caliper p samples) := by
  have count : (BitVec.ofNat 8 samples.length).toNat = samples.length := by
    rw [BitVec.toNat_ofNat, Nat.mod_eq_of_lt few]
  refine (decodeFrame_of_fine ((isFrameError_caliper _ rfl).trans ?_)).trans (congrArg some ?_)
  · rw [samples_bytes_length, count, bne_self_eq_false]
    rfl
  · exact congrArg (Instr.caliper p) (samplesOf_flatMap samples)

theorem decodeFrame_setAttention (enables : Word16) (mode : Byte) :
    decodeFrame p (Code.setAttention :: (bytesOf 2 enables.toNat ++ [mode])) false
      = some (.setAttention p enables mode) := by
  have spelled : bytesOf 2 enables.toNat ++ [mode] = record [(2, enables.toNat), (1, mode.toNat)] := by
    rw [byte_eq_bytesOf]
    rfl
  have fields : Holds (bytesOf 2 enables.toNat ++ [mode]) [(0, 2, enables.toNat), (2, 1, mode.toNat)] :=
    .of_fields spelled rfl
  simp only [Holds, List.forall_mem_cons] at fields
  obtain ⟨mask, level, -⟩ := fields
  refine (decodeFrame_action rfl rfl).trans (congrArg some ?_)
  rw [ofNat_natAt enables mask rfl, ofNat_natAt mode level rfl]

theorem decodeFrame_coverSeen (serial : Word16) (cover : Word32) :
    decodeFrame p (Code.coverSeen :: (bytesOf 2 serial.toNat ++ bytesOf 4 cover.toNat)) false
      = some (.coverSeen p serial cover) := by
  have fields : Holds (bytesOf 2 serial.toNat ++ bytesOf 4 cover.toNat) [(0, 2, serial.toNat), (2, 4, cover.toNat)] :=
    .of_fields rfl rfl
  simp only [Holds, List.forall_mem_cons] at fields
  obtain ⟨book, seen, -⟩ := fields
  refine (decodeFrame_action rfl rfl).trans (congrArg some ?_)
  rw [ofNat_natAt serial book rfl, ofNat_natAt cover seen rfl]

theorem decodeFrame_announce (jobKey cover : Word32) (jobClass : Byte) (hr h wr w cw : Word24) :
    decodeFrame p (Code.announce :: (bytesOf 4 jobKey.toNat ++ [jobClass] ++ bytesOf 3 hr.toNat ++ bytesOf 3 h.toNat
      ++ bytesOf 3 wr.toNat ++ bytesOf 3 w.toNat ++ bytesOf 3 cw.toNat ++ bytesOf 4 cover.toNat)) false
      = some (.announce p jobKey jobClass hr h wr w cw cover) := by
  refine (decodeFrame_action rfl rfl).trans (congrArg some ?_)
  generalize spelled : bytesOf 4 jobKey.toNat ++ [jobClass] ++ bytesOf 3 hr.toNat ++ bytesOf 3 h.toNat
    ++ bytesOf 3 wr.toNat ++ bytesOf 3 w.toNat ++ bytesOf 3 cw.toNat ++ bytesOf 4 cover.toNat = args
  rw [byte_eq_bytesOf] at spelled
  have fields : Holds args [(0, 4, jobKey.toNat), (4, 1, jobClass.toNat), (5, 3, hr.toNat), (8, 3, h.toNat),
      (11, 3, wr.toNat), (14, 3, w.toNat), (17, 3, cw.toNat), (20, 4, cover.toNat)] :=
    .of_fields (by simp [← spelled, record]) rfl
  simp only [Holds, List.forall_mem_cons] at fields
  obtain ⟨key, class_, rawHeight, height, rawWidth, width, coverWidth, expected, -⟩ := fields
  rw [ofNat_natAt jobKey key rfl, ofNat_natAt jobClass class_ rfl, ofNat_natAt hr rawHeight rfl,
    ofNat_natAt h height rfl, ofNat_natAt wr rawWidth rfl, ofNat_natAt w width rfl, ofNat_natAt cw coverWidth rfl,
    ofNat_natAt cover expected rfl]

/-- R202: the frame of a command is read back as the command: first the reads, then the frames of no operand, of bytes
alone, of a word behind some bytes, and those of several words. -/
theorem decodeFrame_encodeFrame {i : Instr} {bytes : List Byte} (formed : i.wellFormed = true)
    (port : portOf i = some p) (enc : encodeFrame i = some bytes) : decodeFrame p bytes false = some i := by
  cases i with
  | readIdent | readStatus | readResult | readAttention | readLifts | readConfig | nextDue | nextLift =>
    cases enc
    cases port
    exact decodeFrame_read rfl rfl
  | readBook =>
    cases enc
    cases port
    exact (decodeFrame_read rfl rfl).trans (congrArg some (by simp only [ofNat_natAt_bytesOf]))
  | readClampMap | readRejects | readQueue =>
    cases enc
    cases port
    exact (decodeFrame_read rfl rfl).trans (congrArg some (by simp only [natAt_cons_succ, ofNat_natAt_byte]))
  | takeReject q phase =>
    cases phase with
    | wholeFrame answered =>
      cases enc
      cases port
      refine (decodeFrame_of_fine ((isFrameError_takeReject rfl).trans (Bool.false_and _))).trans (congrArg some ?_)
      rw [List.length_replicate]
    | commandByte => cases enc
    | release answered => cases enc
  | start | hold | resume | runout | stop | clearHalt | resetDevice | closeLift =>
    cases enc
    cases port
    exact decodeFrame_action rfl rfl
  | clearGlueFault | takeLift | cutDone | lockClamp | unlockClamp | setSensor | forceCam =>
    cases enc
    cases port
    exact (decodeFrame_action rfl rfl).trans (congrArg some (by simp only [natAt_cons_succ, ofNat_natAt_byte]))
  | clearAttention | withdraw | rejectBook =>
    cases enc
    cases port
    exact (decodeFrame_action rfl rfl).trans (congrArg some (by simp only [ofNat_natAt_bytesOf]))
  | glueReading | setGeometry | setStation | setCamWindow | setJobClass | setGaugeCal | setGlue | setTimers
  | setLiftLimits =>
    cases enc
    cases port
    exact (decodeFrame_action rfl rfl).trans
      (congrArg some (by simp only [natAt_cons_succ, ofNat_natAt_byte, ofNat_natAt_bytesOf]))
  | setAttention =>
    cases enc
    cases port
    exact decodeFrame_setAttention _ _
  | coverSeen =>
    cases enc
    cases port
    exact decodeFrame_coverSeen _ _
  | announce =>
    cases enc
    cases port
    exact decodeFrame_announce _ _ _ _ _ _ _ _
  | caliper =>
    cases enc
    cases port
    exact decodeFrame_caliper (of_decide_eq_true formed)
  | resolveClampKeep q clamp decision =>
    cases enc
    cases port
    have keep : ¬ natAt [clamp, decision] 1 1 = 1 := fun remove => by
      have one : decision = 1 := by
        rw [← ofNat_natAt_byte decision [], ← natAt_cons_succ clamp [decision], remove]
        rfl
      simp [Instr.wellFormed, one] at formed
    refine (decodeFrame_action rfl rfl).trans ((if_neg keep).trans (congrArg some ?_))
    simp only [natAt_cons_succ, ofNat_natAt_byte]
  | resolveClampRemove q clamp =>
    cases enc
    cases port
    refine (decodeFrame_action rfl rfl).trans (congrArg some ?_)
    rw [ofNat_natAt_byte]
  | frameError q frame partialByte =>
    cases port
    cases partialByte with
    | true => cases enc
    | false =>
      cases enc
      exact decodeFrame_of_error formed
  | frameAbandon
  | forwardCount | reverseCount | homingTravelLimit | pitchesSinceHomeLimit | standstillReturn | standstillExpiry
  | sensorRawChange | debounceExpiry | supplyDipStart | supplyReturn | supplyEvent | powerOnReset | pinReset | resetEnd
  | sealTimerExpiry | camWindowEnd | settleExpiry | heatUpExpiry | staleExpiry | openTimeExpiry | coolingExpiry
  | windowTimerExpiry | trimTimerExpiry | attnPulseEnd | lampFlashToggle => cases enc
  | _ => -- SEAL, whose constructor shares its name with a keyword
    cases enc
    cases port
    exact decodeFrame_action rfl rfl

end Sys2Proof.Machine
end

section
/-!
PROOF. The table of codes and lengths, which frames err, and the events on the lines of a port (R190 to R193, R202).
-/

namespace Sys2Proof.Machine

variable {p : PortId} {code : Byte} {args : List Byte} {partialByte : Bool} {n : Nat} {s : State}

/-! ### The table of codes and lengths (R202) -/

/-- R192 and R202: the codes of the reads, each with the length of its frame up to its last argument byte. -/
def readLengths : List (Nat × Nat) := [(0x01, 1), (0x02, 1), (0x03, 1), (0x04, 1), (0x05, 3), (0x06, 2), (0x07, 3),
  (0x08, 1), (0x09, 1), (0x0A, 1), (0x0B, 1), (0x0C, 2)]

/-- R191 and R202: the codes of the actions of one length, each with the length of its frame. -/
def actionLengths : List (Nat × Nat) := [(0x10, 4), (0x11, 3), (0x20, 25), (0x22, 1), (0x23, 3), (0x24, 3), (0x30, 1),
  (0x31, 1), (0x32, 1), (0x33, 1), (0x34, 1), (0x35, 1), (0x36, 3), (0x37, 4), (0x38, 2), (0x3F, 1), (0x40, 7),
  (0x50, 2), (0x51, 3), (0x52, 1), (0x60, 2), (0x61, 2), (0x70, 6), (0x71, 5), (0x72, 5), (0x73, 7), (0x74, 6),
  (0x75, 5), (0x76, 6), (0x77, 6), (0x78, 4), (0x79, 3)]

/-- R202: the codes of the command table. -/
def KnownCode (code : Byte) : Prop :=
  code = 0x0D ∨ code = 0x21 ∨ ∃ entry ∈ readLengths ++ actionLengths, entry.1 = code.toNat

/-- Whether the table lists a code under a shape. -/
def listedAs (code : Byte) : FrameShape → Bool
  | .read n => (code.toNat, n + 1) ∈ readLengths
  | .action n => (code.toNat, n + 1) ∈ actionLengths
  | .takeReject => code = 0x0D
  | .caliper => code = 0x21

theorem listedAs_of_frameShape : ∀ code : Byte, ∀ shape ∈ frameShape code, listedAs code shape = true := by
  decide +kernel

theorem frameShape_of_read (mem : (code.toNat, n) ∈ readLengths) :
    frameShape code = some (.read (n - 1)) ∧ 1 ≤ n := by
  have listed : ∀ entry ∈ readLengths,
      frameShape (BitVec.ofNat 8 entry.1) = some (.read (entry.2 - 1)) ∧ 1 ≤ entry.2 := by decide
  simpa using listed _ mem

theorem frameShape_of_action (mem : (code.toNat, n) ∈ actionLengths) :
    frameShape code = some (.action (n - 1)) ∧ 1 ≤ n := by
  have listed : ∀ entry ∈ actionLengths,
      frameShape (BitVec.ofNat 8 entry.1) = some (.action (entry.2 - 1)) ∧ 1 ≤ entry.2 := by decide
  simpa using listed _ mem

theorem frameShape_read_iff : frameShape code = some (.read n) ↔ (code.toNat, n + 1) ∈ readLengths :=
  ⟨fun shape => of_decide_eq_true (listedAs_of_frameShape code _ shape), fun mem => (frameShape_of_read mem).1⟩

theorem frameShape_takeReject (shape : frameShape code = some .takeReject) : code = 0x0D :=
  of_decide_eq_true (listedAs_of_frameShape code _ shape)

theorem frameShape_none_iff : frameShape code = none ↔ ¬ KnownCode code := by
  constructor
  · rintro shape (rfl | rfl | ⟨⟨k, n⟩, mem, rfl⟩)
    · cases shape
    · cases shape
    · obtain read | action := List.mem_append.1 mem
      · rw [(frameShape_of_read read).1] at shape
        cases shape
      · rw [(frameShape_of_action action).1] at shape
        cases shape
  · intro unknown
    cases shape : frameShape code with
    | none => rfl
    | some form =>
      have listed := listedAs_of_frameShape code form shape
      refine absurd ?_ unknown
      cases form with
      | read n => exact .inr (.inr ⟨_, List.mem_append_left _ (of_decide_eq_true listed), rfl⟩)
      | action n => exact .inr (.inr ⟨_, List.mem_append_right _ (of_decide_eq_true listed), rfl⟩)
      | takeReject => exact .inl (of_decide_eq_true listed)
      | caliper => exact .inr (.inl (of_decide_eq_true listed))

theorem isAbandonable_iff (bytes : List Byte) :
    isAbandonable bytes = true ↔ ∀ code, bytes.head? = some code → KnownCode code := by
  cases bytes with
  | nil => exact ⟨fun _ code head => (by cases head), fun _ => rfl⟩
  | cons code rest =>
    have shaped : isAbandonable (code :: rest) = true ↔ KnownCode code := by
      rw [← not_not (a := KnownCode code), ← frameShape_none_iff]
      exact Option.isSome_iff_ne_none
    exact shaped.trans ⟨fun known c head => (by cases head; exact known), fun all => all code rfl⟩

/-- R191 and R192: which frames err, by the length the table gives. -/
theorem isFrameError_iff (code : Byte) (args : List Byte) (partialByte : Bool) :
    let length := args.length + 1
    let err : Prop := isFrameError (code :: args) partialByte = true
    (¬ KnownCode code → err)
    ∧ (∀ n, (code.toNat, n) ∈ readLengths → (err ↔ length < n))
    ∧ (∀ n, (code.toNat, n) ∈ actionLengths → (err ↔ partialByte = true ∨ length ≠ n))
    ∧ (code = 0x0D → (err ↔ partialByte = true ∧ 9 ≤ length))
    ∧ (code = 0x21 → args = [] → err)
    ∧ (code = 0x21 → ∀ n : Byte, args.head? = some n → (err ↔ partialByte = true ∨ length ≠ 2 + 3 * n.toNat)) := by
  intro length err
  refine ⟨fun unknown => isFrameError_unknown (frameShape_none_iff.2 unknown), fun n mem => ?_, fun n mem => ?_,
    fun reject => ?_, fun caliper none_ => ?_, fun caliper n head => ?_⟩
  · obtain ⟨shape, some_⟩ := frameShape_of_read mem
    simp only [err, length, isFrameError_read shape, decide_eq_true_eq]
    omega
  · obtain ⟨shape, some_⟩ := frameShape_of_action mem
    simp only [err, length, isFrameError_action shape, Bool.or_eq_true, bne_iff_ne]
    exact or_congr Iff.rfl (by omega)
  · subst reject
    simp only [err, length, isFrameError_takeReject (code := 0x0D) rfl, Bool.and_eq_true, decide_eq_true_eq]
    exact and_congr Iff.rfl (by omega)
  · subst caliper none_
    exact isFrameError_caliper_nil rfl
  · subst caliper
    cases args with
    | nil => cases head
    | cons count rest =>
      cases head
      simp only [err, length, isFrameError_caliper (code := 0x21) n rfl, Bool.or_eq_true, bne_iff_ne, List.length_cons]
      exact or_congr Iff.rfl (by omega)

/-! ### The lines of a port (R190) -/

/-- Changes of one port, of its lines and of what is taken next. -/
def State.line (p : PortId) (q : Port) (w : PortWire) (taken : Option Instr) (s : State) : State :=
  { s with ports := s.ports.set p q, wires := s.wires.set p w, pending := s.pending ++ taken.toList }

theorem State.post_eq_line (f : Port → Port) (w : PortWire) (taken : Option Instr) :
    ((s.setWire p w).modifyPort p f).post taken = s.line p (f s.ports[p]) w taken := rfl

theorem State.modifyPort_eq_line (f : Port → Port) (w : PortWire) :
    (s.setWire p w).modifyPort p f = s.line p (f s.ports[p]) w none :=
  congrArg (fun l => ({ (s.setWire p w).modifyPort p f with pending := l } : State)) (List.append_nil _).symm

theorem State.setWire_eq_line (w : PortWire) : s.setWire p w = s.line p s.ports[p] w none := by
  have same : s.ports.set p s.ports[p] = s.ports := Vector.set_getElem_self _
  have line := State.modifyPort_eq_line (s := s) (p := p) id w
  rw [id, State.modifyPort] at line
  rw [← line]
  exact congrArg (fun v => ({ s.setWire p w with ports := v } : State)) same.symm

theorem State.takeWire_idle (running : s.stoppage.held = false) (idle : s.ports[p].frame = .idle) :
    (∀ sdi, s.takeWire p (.clockRise sdi) = s) ∧ s.takeWire p .clockFall = s :=
  ⟨fun _ => (State.takeWire_clockRise running).trans (if_pos idle),
    (State.takeWire_clockFall running).trans (if_pos idle)⟩

/-- R190: a bit that does not yet complete a byte. -/
theorem State.clockBit_few {sdi : Bool} (busy : s.ports[p].frame ≠ .idle) (few : s.wires[p].bits.length < 7) :
    s.clockBit p sdi = s.line p s.ports[p] { s.edged p with bits := s.wires[p].bits ++ [sdi] } none := by
  have short : ((s.edged p).bits ++ [sdi]).length < 8 := by
    rw [List.length_append, List.length_singleton]
    exact Nat.succ_lt_succ few
  exact (if_neg busy).trans ((if_pos short).trans (State.setWire_eq_line _))

theorem State.edged_full {sdi : Bool} (full : s.wires[p].bits.length = 7) :
    ¬ ((s.edged p).bits ++ [sdi]).length < 8 := by
  rw [List.length_append, List.length_singleton]
  exact Nat.not_lt.2 (Nat.succ_le_succ full.ge)

/-- R190: a byte that completes in ANSWERING or DISCARDING is counted. -/
theorem State.clockBit_counts {sdi : Bool} (counting : s.ports[p].frame = .answering ∨ s.ports[p].frame = .discarding)
    (full : s.wires[p].bits.length = 7) : s.clockBit p sdi
      = s.line p s.ports[p] { s.edged p with bits := [], answered := s.wires[p].answered + 1 } none := by
  have busy : s.ports[p].frame ≠ .idle := by
    obtain frame | frame := counting <;> (rw [frame]; decide)
  have other : s.ports[p].frame ≠ .collecting := by
    obtain frame | frame := counting <;> (rw [frame]; decide)
  exact (if_neg busy).trans ((if_neg (State.edged_full full)).trans ((if_neg other).trans (State.setWire_eq_line _)))

/-- R190: eight bits, the most significant first, are a byte. -/
theorem byteOfBits_eq {bits : List Bool} {b : Byte} (length : bits.length = 8)
    (spelled : ∀ k : Fin 8, some (b.getMsbD k) = bits[k.val]?) : byteOfBits bits = b := by
  have own : ∀ b : Byte, byteOfBits ((List.finRange 8).map fun k : Fin 8 => b.getMsbD k) = b := by decide +kernel
  have same : bits = (List.finRange 8).map fun k : Fin 8 => b.getMsbD k := by
    refine List.ext_getElem (by simp [length]) fun i inside _ => ?_
    have bit := spelled ⟨i, length ▸ inside⟩
    rw [List.getElem?_eq_getElem inside, Option.some.injEq] at bit
    simp [← bit]
  rw [same, own b]

/-- R190 and R192: a byte that completes in COLLECTING is collected, and what it completes is taken next. -/
theorem State.clockBit_collects {sdi : Bool} {b : Byte} (collecting : s.ports[p].frame = .collecting)
    (full : s.wires[p].bits.length = 7)
    (spelled : ∀ k : Fin 8, some (b.getMsbD k) = (s.wires[p].bits ++ [sdi])[k.val]?) :
    let bytes := s.ports[p].collected ++ [b]
    s.clockBit p sdi = s.line p { s.ports[p] with
      frame := if (frameShape (bytes.headD 0)).isSome then .collecting else .discarding, collected := bytes }
        { s.edged p with bits := [] } (readTaken p bytes) := by
  intro bytes
  have busy : s.ports[p].frame ≠ .idle := by rw [collecting]; decide
  have byte : byteOfBits ((s.edged p).bits ++ [sdi]) = b := byteOfBits_eq (by
    rw [List.length_append, List.length_singleton]
    exact congrArg (· + 1) full) spelled
  refine (if_neg busy).trans ((if_neg (State.edged_full full)).trans ((if_pos collecting).trans ?_))
  rw [byte]
  rfl

/-! ### What a byte completes (R50, R192) -/

theorem readTaken_read (shape : frameShape code = some (.read n)) :
    readTaken p (code :: args) = if args.length = n then decodeCommand p code args else none := by
  simp only [readTaken, shape]

theorem readTaken_takeReject (shape : frameShape code = some .takeReject) :
    readTaken p (code :: args) = if args = [] then some (.takeReject p .commandByte) else none := by
  simp only [readTaken, shape]

/-- R191: every other frame is examined at select release. -/
theorem readTaken_other (notRead : ∀ n, frameShape code ≠ some (.read n))
    (notReject : frameShape code ≠ some .takeReject) : readTaken p (code :: args) = none := by
  cases shape : frameShape code with
  | none => simp only [readTaken, shape]
  | some form =>
    cases form with
    | read n => exact absurd shape (notRead n)
    | takeReject => exact absurd shape notReject
    | action n => simp only [readTaken, shape]
    | caliper => simp only [readTaken, shape]

/-! ### Select rises (R191 to R193) -/

theorem PortWire.endsPartial_eq (w : PortWire) (bytes : List Byte) :
    w.endsPartial bytes = decide (w.bits ≠ [] ∨ (bytes = [] ∧ w.edge = true)) := by
  rw [PortWire.endsPartial, Bool.eq_iff_iff]
  simp

/-- R190: select rises, and what the frame was is taken next. -/
theorem State.takeWire_release (running : s.stoppage.held = false) {taken : Option Instr}
    (released : s.released p = taken) : s.takeWire p .selectRise
      = s.line p { s.ports[p] with frame := .idle, collected := [], snapshot := none } ⟨[], 0, none, false, false⟩
          taken := by
  subst released
  exact State.takeWire_selectRise running

/-- R191 to R193: what a frame is when its select rises, by the state of the port. -/
theorem State.released_eq (s : State) (p : PortId) :
    let q := s.ports[p]
    let w := s.wires[p]
    (q.frame = .idle → s.released p = none)
    ∧ (q.frame = .collecting → s.released p = decodeFrame p q.collected (w.endsPartial q.collected))
    ∧ (q.frame = .answering → s.released p = if q.taking.isNone then none
      else if isFrameError (q.collected ++ List.replicate w.answered 0) (w.endsPartial q.collected)
        then some (.frameError p (q.collected ++ List.replicate w.answered 0) (w.endsPartial q.collected))
        else some (.takeReject p (.release w.answered)))
    ∧ (q.frame = .discarding → s.released p =
      if q.collected = [] then none else some (.frameError p q.collected (w.endsPartial q.collected))) := by
  intro q w
  refine ⟨fun frame => ?_, fun frame => ?_, fun frame => ?_, fun frame => ?_⟩
  all_goals
    have frame' : s.ports[p].frame = _ := frame
    simp only [State.released, frame', q, w]

/-- R50: a TAKE REJECT that is released, by how much of its entry was clocked out. -/
theorem State.released_takeReject (answering : s.ports[p].frame = .answering) (taking : s.ports[p].taking ≠ none)
    (code : s.ports[p].collected = [0x0D]) : s.released p =
      if (s.wires[p].endsPartial [0x0D] && decide (8 ≤ s.wires[p].answered)) = true
      then some (.frameError p (0x0D :: List.replicate s.wires[p].answered 0) (s.wires[p].endsPartial [0x0D]))
      else some (.takeReject p (.release s.wires[p].answered)) := by
  have released := (s.released_eq p).2.2.1 answering
  have reject : ¬ s.ports[p].taking.isNone = true := by simpa using taking
  rw [if_neg reject, code, List.singleton_append, isFrameError_takeReject rfl, List.length_replicate] at released
  exact released

/-- R190: SCK falls, and SDO is driven with the next bit of the byte at the port's place. -/
theorem State.takeWire_drives (running : s.stoppage.held = false) (busy : s.ports[p].frame ≠ .idle) {byte : Byte}
    (drives : s.ports[p].sdoByte s.wires[p].answered = byte) : s.takeWire p .clockFall
      = s.line p s.ports[p] { s.edged p with sdo := byte.getMsbD s.wires[p].bits.length } none := by
  subst drives
  exact (State.takeWire_clockFall running).trans ((if_neg busy).trans (State.setWire_eq_line _))

theorem Port.sdoByte_answering {q : Port} {a : Snapshot} (answering : q.frame = .answering)
    (snapshot : q.snapshot = some a) (i : Nat) : q.sdoByte i = a.byteAt i := by
  simp only [Port.sdoByte, answering, snapshot]

/-- R190: outside ANSWERING the byte on SDO is 0x00. -/
theorem Port.sdoByte_other {q : Port} (other : q.frame ≠ .answering) (i : Nat) : q.sdoByte i = 0 := by
  unfold Port.sdoByte
  split
  next a answering snapshot => exact absurd answering other
  next => rfl

/-- Settles O13: decoding by the command, the table by its entries, the line events one by one. -/
theorem framesReadBack : Obligations.FramesReadBack := by
  unfold Obligations.FramesReadBack
  refine ⟨fun i p bytes formed port enc => decodeFrame_encodeFrame formed port enc, ?_, fun p s running => ?_⟩
  · intro reads actions known
    exact ⟨fun code n => frameShape_read_iff, fun code => frameShape_none_iff, isAbandonable_iff, fun _ => rfl,
      isFrameError_iff, fun p => ⟨rfl, fun bytes partialByte err => decodeFrame_of_error err⟩⟩
  intro q w line partialByte edged
  refine ⟨?_, fun sdi => ⟨fun idle => (State.takeWire_idle running idle).1 sdi, fun busy few => ?_,
    fun counting full => ?_, fun collecting full b spelled => ?_⟩, ?_, fun idle => (State.takeWire_idle running idle).2,
    ?_, ?_, ?_⟩
  · exact (State.takeWire_selectFall running).trans (State.modifyPort_eq_line _ _)
  · exact (State.takeWire_clockRise running).trans (State.clockBit_few busy few)
  · exact (State.takeWire_clockRise running).trans (State.clockBit_counts counting full)
  · intro bytes collected code
    have taken := (State.takeWire_clockRise (sdi := sdi) running).trans
      (State.clockBit_collects collecting full spelled)
    obtain ⟨c, args, spelled⟩ : ∃ c args, bytes = c :: args := List.exists_cons_of_ne_nil (by simp [bytes])
    have head : code = c := congrArg (List.headD · 0) spelled
    have length : bytes.length = args.length + 1 := congrArg List.length spelled
    have result {after : FrameState} {found : Option Instr}
        (frame : (if (frameShape code).isSome then FrameState.collecting else .discarding) = after)
        (completes : readTaken p (c :: args) = found) : s.takeWire p (.clockRise sdi) = collected after found := by
      rw [← spelled] at completes
      rw [← frame, ← completes]
      exact taken
    have known {form : FrameShape} (shape : frameShape code = some form) :
        (if (frameShape code).isSome then FrameState.collecting else .discarding) = .collecting := by
      rw [shape]
      rfl
    rw [head] at result known ⊢
    refine ⟨fun unknown => result (by rw [unknown]; rfl) (readTaken_other (by simp [unknown]) (by simp [unknown])),
      fun n shape last => ?_, fun reject first => ?_, fun listed notLast notFirst => ?_⟩
    · have complete : args.length = n := by omega
      refine result (known shape) ((readTaken_read shape).trans ((if_pos complete).trans ?_))
      rw [spelled]
      exact (decodeFrame_read shape complete).symm
    · have shape : frameShape c = some .takeReject := by
        rw [reject]
        rfl
      exact result (known shape) ((readTaken_takeReject shape).trans
        (if_pos (List.eq_nil_of_length_eq_zero (by omega))))
    · obtain ⟨form, shape⟩ := Option.ne_none_iff_exists'.1 listed
      refine result (known shape) ?_
      cases form with
      | read n =>
        have incomplete := notLast n shape
        exact (readTaken_read shape).trans (if_neg (by omega))
      | takeReject =>
        have later := notFirst (frameShape_takeReject shape)
        exact (readTaken_takeReject shape).trans (if_neg fun none_ => later (by rw [length, none_]; rfl))
      | action n => exact readTaken_other (by simp [shape]) (by simp [shape])
      | caliper => exact readTaken_other (by simp [shape]) (by simp [shape])
  · intro ended
    obtain ⟨idle, collecting, answering, discarding⟩ := s.released_eq p
    rw [PortWire.endsPartial_eq] at collecting answering discarding
    refine ⟨fun frame => State.takeWire_release running (idle frame),
      fun frame => State.takeWire_release running (collecting frame),
      fun frame read => State.takeWire_release running ((answering frame).trans (if_pos (by rw [read]; rfl))),
      fun frame reject whole => ?_,
      fun frame none_ => State.takeWire_release running ((discarding frame).trans (if_pos none_)),
      fun frame some_ => State.takeWire_release running ((discarding frame).trans (if_neg some_))⟩
    have released := State.released_takeReject frame reject whole
    rw [PortWire.endsPartial_eq] at released
    refine ⟨fun cut enough => State.takeWire_release running ?_, fun fine => State.takeWire_release running ?_⟩
    · have cut' : decide (w.bits ≠ [] ∨ ([0x0D] : List Byte) = [] ∧ w.edge = true) = true := by
        rw [← whole]
        exact cut
      rw [cut', Bool.true_and, if_pos (decide_eq_true enough)] at released
      exact released
    · refine released.trans (if_neg ?_)
      rw [Bool.and_eq_true, decide_eq_true_eq (p := 8 ≤ _), ← whole]
      exact fun ⟨cut, enough⟩ => fine.elim (fun whole => Bool.false_ne_true (whole.symm.trans cut)) (not_lt.2 enough)
  · intro a frame snapshot byte
    have busy : q.frame ≠ .idle := by rw [frame]; decide
    exact State.takeWire_drives running busy (Port.sdoByte_answering frame snapshot _)
  · intro other
    have busy : q.frame ≠ .idle := by obtain frame | frame := other <;> (rw [frame]; decide)
    have silent : q.frame ≠ .answering := by obtain frame | frame := other <;> (rw [frame]; decide)
    refine (State.takeWire_drives running busy (Port.sdoByte_other silent _)).trans ?_
    exact congrArg (fun level => s.line p q { s.edged p with sdo := level } none) BitVec.getMsbD_zero
  · simp [State.sdo, running, q, w]

end Sys2Proof.Machine
end
